-- ==== Sys2Proof/Word.lean ====
section
/-! DEFINITION. The plain words of the WS4180: bytes, and the index types of ports, groups and classes. -/

namespace Sys2Proof

/-- A data byte of a frame or of a bank. -/
abbrev Byte := BitVec 8

/-- Ports 0-4; port 0 is the backbone (chapter 1). -/
abbrev PortId := Fin 5

/-- Wake groups G0-G7 (chapter 5). -/
abbrev GroupId := Fin 8

/-- General-purpose inputs GPI0-GPI7. -/
abbrev GpiId := Fin 8

/-- The class of a wake request, 0 most urgent to 3 least urgent. -/
abbrev WakeClass := Fin 4

/-- A set of ports; bit n stands for port n (11.1). -/
abbrev PortSet := BitVec 5

/-- A set of groups; bit k stands for Gk (11.1). -/
abbrev GroupSet := BitVec 8

/-- A set of pages; bit n stands for page n (11.1). -/
abbrev PageSet := BitVec 16

/-- Ports in ascending order. -/
def allPorts : List PortId := [0, 1, 2, 3, 4]

/-- Groups, or general-purpose inputs, in ascending order. -/
def allGroups : List GroupId := [0, 1, 2, 3, 4, 5, 6, 7]

/-- The five values of a function on ports, as data. -/
def tabPorts {α : Type} (f : PortId → α) : Vector α 5 := #v[f 0, f 1, f 2, f 3, f 4]

/-- The eight values of a function on groups, as data. -/
def tabGroups {α : Type} (f : GroupId → α) : Vector α 8 := #v[f 0, f 1, f 2, f 3, f 4, f 5, f 6, f 7]

end Sys2Proof
end

