-- ==== Sys2Proof/Syntax.lean ====
section
/-! DEFINITION. The commands of the WS4180: one constructor for each row of spec/opcode_table.json, with its operands. -/

namespace Sys2Proof

/-- An input line with a debounce timer of its own (R57). -/
inductive InputLine where
  | ign
  | svc
  | gpi (k : GpiId)
deriving DecidableEq, Repr

/-- A CAN identifier with its format (Table 1-1). -/
inductive Ident where
  | std (id : BitVec 11)
  | ext (id : BitVec 29)
deriving DecidableEq, Repr

/-- A frame as the part records it (Table 1-1): the data length is the length of `data`, 0 to 8. -/
structure Frame where
  ident : Ident
  data  : List Byte
deriving DecidableEq, Repr

/-- The levels that the part finds at its inputs at power-on (R57, R101); true is high or asserted. -/
structure PowerOnPins where
  ma1 : Bool
  ma0 : Bool
  fb  : Bool
  ign : Bool
  svc : Bool
  gpi : BitVec 8
  pg  : BitVec 8
deriving DecidableEq, Repr

/-- All inputs and straps low. -/
def PowerOnPins.allLow : PowerOnPins :=
  { ma1 := false, ma0 := false, fb := false, ign := false, svc := false, gpi := 0, pg := 0 }

/-- What a port controller finds while it sends the error and overload flags that follow a frame or an attempt, so far as the error
counters of the CAN protocol count it (R12; PRESUMED, log 8). `again` are the further errors found outside a flag, each of which starts a
new flag; `dominant` are the bit errors in a flag, the dominant bits right after one, and each run of eight dominant bits behind it. -/
structure FlagErrors where
  again    : Nat
  dominant : Nat
deriving DecidableEq, Repr

/-- Nothing found. -/
def FlagErrors.nothing : FlagErrors := { again := 0, dominant := 0 }

/-- Where in its own frame a port controller finds the error that ends an attempt: beyond arbitration, in arbitration, or in arbitration
at a stuff bit that it sends recessive and reads dominant, which the CAN protocol does not count (R11, R12; log 8, log 24). -/
inductive ErrorPlace where
  | beyondArbitration
  | inArbitration
  | arbitrationStuffBit
deriving DecidableEq, Repr

/-- The end of a frame or of an attempt on the bus of a port, with what the error counters of R12 need: the flags behind it. -/
structure BusEnd where
  port  : PortId
  flags : FlagErrors
deriving DecidableEq, Repr

/-- The end of an attempt without acknowledgement. `dominant` says that the controller reads a dominant bit while it sends its error flag,
which matters when that flag is a passive one (log 8). -/
structure SilentEnd where
  port     : PortId
  dominant : Bool
  flags    : FlagErrors
deriving DecidableEq, Repr

/-- The end of an attempt by an error, with the place of the error. -/
structure ErrorEnd where
  port  : PortId
  place : ErrorPlace
  flags : FlagErrors
deriving DecidableEq, Repr

/-- The commands: every row of spec/opcode_table.json. A management request carries the data bytes that follow its
command code (`args`, 0 to 7 of them); `unknownCommand` carries all its data bytes (0 to 8). -/
inductive Instr where
  | powerOn (pins : PowerOnPins)
  | pinChange (line : InputLine) (level : Bool)
  | gpiEdge (k : GpiId)
  | ignEdge
  | svcEdge
  | dataFrameReceived (e : BusEnd) (ident : Ident) (dlc : BitVec 4) (data : List Byte)
  | receptionError (e : BusEnd)
  | remoteRequestFrame (e : BusEnd) (ident : Ident)
  | classification (p : PortId)
  | txAttemptStart (p : PortId)
  | attemptAcknowledged (e : BusEnd)
  | attemptNotAcknowledged (e : SilentEnd)
  | attemptError (e : ErrorEnd)
  | arbitrationLost (p : PortId)
  | busOffRecovery (p : PortId)
  | holdRelease (p : PortId)
  | holdExpiry (i : Fin 48)
  | mgmtLingerExpiry
  | powerGoodAsserted (g : GroupId)
  | powerGoodDelayExpiry (g : GroupId)
  | powerGoodTimeout (g : GroupId)
  | powerGoodLost (g : GroupId)
  | powerFault (g : GroupId)
  | settleExpiry (g : GroupId)
  | lingerExpiry (g : GroupId)
  | drainExpiry (g : GroupId)
  | settlement
  | windowExpiry (g : GroupId)
  | quarantineExpiry (g : GroupId)
  | parkSettleExpiry
  | modeTimeTick
  | verificationComplete
  | copyComplete
  | status (args : List Byte)
  | readBudget (args : List Byte)
  | readGroup (args : List Byte)
  | readHistory (args : List Byte)
  | readCounters (args : List Byte)
  | setPointer (args : List Byte)
  | readTable (args : List Byte)
  | abort (args : List Byte)
  | writeTable (args : List Byte)
  | verify (args : List Byte)
  | swap (args : List Byte)
  | lock (args : List Byte)
  | wake (args : List Byte)
  | clearFault (args : List Byte)
  | releaseQuarantine (args : List Byte)
  | clearHistory (args : List Byte)
  | unknownCommand (data : List Byte)
deriving DecidableEq, Repr

end Sys2Proof
end

