-- ==== Sys2Proof/WellFormed.lean ====
section
/-! DEFINITION. Which terms of `Instr` name a command that the part can meet. Ports, groups, identifiers and positions are bounded by
their types; what is left to check is the number of data bytes and the code of an unknown command. -/

namespace Sys2Proof

/-- The data length recorded for a length code: codes 9 to 15 record length 8 (R1). -/
def recordedLength (dlc : BitVec 4) : Nat := min dlc.toNat 8

/-- Table 11-8: the codes that name a command. -/
def isCommandCode (c : Byte) : Bool :=
  (1 ≤ c.toNat && c.toNat ≤ 8) || (16 ≤ c.toNat && c.toNat ≤ 23)

/-- The bytes of a data frame are as many as its length code says (R1). -/
def frameDataFits (dlc : BitVec 4) (data : List Byte) : Bool := data.length == recordedLength dlc

/-- The arguments of a request fit behind its command code (9.1). -/
def argsFit (args : List Byte) : Bool := args.length ≤ 7

/-- A request that names no command: no byte at all, or a first byte that is no command code (R149). -/
def namesNoCommand : List Byte → Bool
  | [] => true
  | c :: rest => !isCommandCode c && rest.length ≤ 7

/-- The command is one that the part can meet. -/
def Instr.wellFormed : Instr → Bool
  | .dataFrameReceived _ _ dlc data => frameDataFits dlc data
  | .status a | .readBudget a | .readGroup a | .readHistory a | .readCounters a | .setPointer a | .readTable a
  | .abort a | .writeTable a | .verify a | .swap a | .lock a | .wake a | .clearFault a | .releaseQuarantine a
  | .clearHistory a => argsFit a
  | .unknownCommand d => namesNoCommand d
  | .powerOn _ | .pinChange _ _ | .gpiEdge _ | .ignEdge | .svcEdge | .receptionError _ | .remoteRequestFrame _ _
  | .classification _ | .txAttemptStart _ | .attemptAcknowledged _ | .attemptNotAcknowledged _ | .attemptError _
  | .arbitrationLost _ | .busOffRecovery _ | .holdRelease _ | .holdExpiry _ | .mgmtLingerExpiry | .powerGoodAsserted _
  | .powerGoodDelayExpiry _ | .powerGoodTimeout _ | .powerGoodLost _ | .powerFault _ | .settleExpiry _
  | .lingerExpiry _ | .drainExpiry _ | .settlement | .windowExpiry _ | .quarantineExpiry _ | .parkSettleExpiry
  | .modeTimeTick | .verificationComplete | .copyComplete => true

end Sys2Proof
end

