-- ==== Sys2Proof/Decode.lean ====
section
/-! DEFINITION. The command that a word spells by the opcode table's bits, and the command that the data bytes of a management
request spell (Table 11-8), with the bytes that spell each. -/

namespace Sys2Proof

/-- spec/opcode_table.json gives no row any bits ("fields": [] and no "fixed" in every row), so no word spells a command
(log 20). -/
def decodeTableWord (_nbits _w : Nat) : Option Instr := none

/-- Table 11-8: the command that the data bytes of a request frame name. Every byte list names one: a code that names no
command, or no byte at all, is an unknown command (R149). -/
def decodeRequest : List Byte → Instr
  | [] => .unknownCommand []
  | c :: args =>
    match c.toNat with
    | 0x01 => .status args
    | 0x02 => .readBudget args
    | 0x03 => .readGroup args
    | 0x04 => .readHistory args
    | 0x05 => .readCounters args
    | 0x06 => .setPointer args
    | 0x07 => .readTable args
    | 0x08 => .abort args
    | 0x10 => .writeTable args
    | 0x11 => .verify args
    | 0x12 => .swap args
    | 0x13 => .lock args
    | 0x14 => .wake args
    | 0x15 => .clearFault args
    | 0x16 => .releaseQuarantine args
    | 0x17 => .clearHistory args
    | _ => .unknownCommand (c :: args)

/-- Table 11-8: the data bytes of the request frame that a management command stands for; the other commands are no
requests. -/
def requestBytes : Instr → Option (List Byte)
  | .status a => some (0x01 :: a)
  | .readBudget a => some (0x02 :: a)
  | .readGroup a => some (0x03 :: a)
  | .readHistory a => some (0x04 :: a)
  | .readCounters a => some (0x05 :: a)
  | .setPointer a => some (0x06 :: a)
  | .readTable a => some (0x07 :: a)
  | .abort a => some (0x08 :: a)
  | .writeTable a => some (0x10 :: a)
  | .verify a => some (0x11 :: a)
  | .swap a => some (0x12 :: a)
  | .lock a => some (0x13 :: a)
  | .wake a => some (0x14 :: a)
  | .clearFault a => some (0x15 :: a)
  | .releaseQuarantine a => some (0x16 :: a)
  | .clearHistory a => some (0x17 :: a)
  | .unknownCommand d => some d
  | .powerOn _ | .pinChange _ _ | .gpiEdge _ | .ignEdge | .svcEdge | .dataFrameReceived _ _ _ _ | .receptionError _
  | .remoteRequestFrame _ _ | .classification _ | .txAttemptStart _ | .attemptAcknowledged _
  | .attemptNotAcknowledged _ | .attemptError _ | .arbitrationLost _ | .busOffRecovery _ | .holdRelease _
  | .holdExpiry _ | .mgmtLingerExpiry | .powerGoodAsserted _ | .powerGoodDelayExpiry _ | .powerGoodTimeout _
  | .powerGoodLost _ | .powerFault _ | .settleExpiry _ | .lingerExpiry _ | .drainExpiry _ | .settlement
  | .windowExpiry _ | .quarantineExpiry _ | .parkSettleExpiry | .modeTimeTick | .verificationComplete
  | .copyComplete => none

end Sys2Proof
end

