-- ==== Sys2Proof/Config.lean ====
section
/-! DEFINITION. What the part fixes by number, and the one value that the CAN protocol leaves to an implementation. -/

namespace Sys2Proof.Config

/-- Places of a transmit queue (R9). -/
def queueMax : Nat := 16

/-- Attempts a frame receives in all (R10). -/
def attemptMax : Nat := 8

/-- Entries of the hold queue (R61). -/
def holdMax : Nat := 48

/-- Hold entries from which condition code 11 is true (Table 3-2). -/
def holdCrowded : Nat := 36

/-- Records of the wake history (R140). -/
def historyMax : Nat := 32

/-- The value at which a 16-bit counter stops (R17, R140). -/
def counterMax : Nat := 65535

/-- The value at which the mode time and the shortfall stop (R106, R120). -/
def wordMax : Nat := 4294967295

/-- The value at which inrush pending stops (R119). -/
def inrushMax : Nat := 2040

/-- Milliseconds of an accounting interval (R115, R120). -/
def intervalMs : Nat := 1000

/-- Bytes of a bank (Table 2-1). -/
def bankBytes : Nat := 2048

/-- Offset of the first rule entry of a bank (R25). -/
def ruleListStart : Nat := 256

/-- Rule entries a verified list may hold before END (R25). -/
def ruleMax : Nat := 200

/-- Most milliseconds that a verification takes (R28). -/
def verifyMs : Nat := 25

/-- Most milliseconds that a copy takes (R37). -/
def copyMs : Nat := 4

/-- Debounce time of IGN and SVC, in ms (R57). -/
def debounceSenseMs : Nat := 20

/-- Debounce time of GPI0-GPI7, in ms (R57). -/
def debounceGpiMs : Nat := 10

/-- PRESUMED: the transmit or receive error count above which a CAN controller is error-passive (ISO 11898-1, log 8). -/
def errorPassiveAbove : Nat := 127

/-- PRESUMED: the transmit error count above which a CAN controller is bus-off (ISO 11898-1, log 8). -/
def busOffAbove : Nat := 255

/-- PRESUMED: what the transmit error count grows by at an error (ISO 11898-1, log 8). -/
def txErrorStep : Nat := 8

/-- PRESUMED: what the receive error count grows by at an error (ISO 11898-1, log 8). -/
def rxErrorStep : Nat := 1

/-- PRESUMED: what either count grows by at a dominant bit in or behind an error or overload flag (ISO 11898-1, log 8). -/
def flagErrorStep : Nat := 8

/-- DESIGN CHOICE: the receive error count is kept in eight bits and stops there (log 8). -/
def receiveErrorMax : Nat := 255

/-- A free value (log 9). A good reception takes an error-passive receive error count to 119 plus this value; the CAN
protocol lets an implementation choose from 119 to 127. -/
opaque receiveErrorReturn : Fin 9

end Sys2Proof.Config
end

