-- ==== Sys2Proof/Machine/State.lean ====
section
/-! DEFINITION. The state of the WS4180, block by block (00 Table 1), as plain data, and the state after reset. -/

namespace Sys2Proof.Machine

/-- The part has no fault that stops it. What the manual calls a fault (a group in FAULT, a verify fault, a refused request) is state,
and is modelled as state; so no meaning raises a `Fault`. -/
inductive Fault where
deriving DecidableEq, Repr

/-- Why the model gives a command no meaning. -/
inductive Refusal where
  /-- Raised by `exec` for a command whose meaning is not written yet; no arm raises it now. Safe: the model stops. -/
  | notModelled (mnemonic : String)
deriving DecidableEq, Repr

/-- An addressed memory: pairs of address and byte, addresses strictly rising, no byte 0. An unlisted address reads 0, the content of
every bank byte after power-on (R19). -/
abbrev Memory := List Host.Cell

/-! ### Line monitor (R57) -/

/-- One input line: the level at its pin, its debounced and previous debounced level, and its debounce timer with the ms left. -/
structure Line where
  pin      : Bool
  level    : Bool
  prev     : Bool
  debounce : Option Nat
deriving DecidableEq, Repr

/-- The ten debounced input lines. -/
structure LineMonitor where
  ign : Line
  svc : Line
  gpi : Vector Line 8
deriving DecidableEq, Repr

/-! ### Port controllers (chapter 1) -/

/-- Table 1-2. -/
inductive PortState where
  | listen
  | active
deriving DecidableEq, Repr

/-- The transmission attempt that a port has on its bus: of the head of its queue, or completing after a flush (R8, R10). -/
inductive Attempt where
  | idle
  | head
  | completing (f : Frame)
deriving DecidableEq, Repr

/-- The eleven counters of a port in the order of the counter pairs of R161 (Table 1-3). -/
inductive Counter where
  | rxOk
  | rxErr
  | rxRemote
  | rxBlocked
  | txOk
  | txUndelivered
  | dropQfull
  | dropAsleep
  | holdOverflow
  | holdExpired
  | holdDiscarded
deriving DecidableEq, Repr

/-- One port controller. `attempts` counts the failed attempts of the head frame (R10). `txErrors` and `rxErrors` are the CAN
protocol's error counters (R12). `waiting` is the received frame that the classifier has still to take, if there is one; the next frame
completes its reception only after it has been taken (R39). -/
structure Port where
  state    : PortState
  queue    : List Frame
  attempts : Nat
  attempt  : Attempt
  counters : Vector Nat 11
  txErrors : Nat
  rxErrors : Nat
  waiting  : Option Frame
deriving DecidableEq, Repr

/-! ### Rule store (chapter 2) -/

/-- Table 2-6. -/
inductive StandbyState where
  | dirty
  | verified
  | rejected
deriving DecidableEq, Repr

/-- The eight kinds of verify fault (R29). -/
inductive VerifyKind where
  | badMark
  | badGroup
  | badKind
  | noEnd
  | tooMany
  | absentGroup
  | badWindow
  | badReport
deriving DecidableEq, Repr

/-- A verify fault: its kind and the byte offset at which it lies (R29). -/
structure VerifyFault where
  kind   : VerifyKind
  offset : Nat
deriving DecidableEq, Repr

/-- The rule store. `activeIsOne` says which of the two banks holds the role ACTIVE; `verifyFault` is the verify fault record, `none`
for kind NONE and offset 0 (R19). -/
structure RuleStore where
  bank0       : Memory
  bank1       : Memory
  activeIsOne : Bool
  standby     : StandbyState
  verifyFault : Option VerifyFault
  lockPages   : PageSet
deriving DecidableEq, Repr

/-! ### Hold queue (chapter 4) -/

/-- Table 4-1; the deadline is held as the ms left (log 14). -/
structure HoldEntry where
  frame     : Frame
  dest      : PortId
  remaining : Nat
  rule      : Option Nat
deriving DecidableEq, Repr

/-! ### Group sequencer (chapter 5) -/

/-- Table 5-2. -/
inductive GroupState where
  | off
  | powering
  | releasing
  | up
  | draining
  | fault
  | quarantined
deriving DecidableEq, Repr

/-- The sequence timer with the ms left. The power-good timer carries in its constructor the power-good mode in force (R78). -/
inductive SeqTimer where
  | stopped
  | powerGoodWait (ms : Nat)
  | powerGoodDelay (ms : Nat)
  | settle (ms : Nat)
  | linger (ms : Nat)
  | drain (ms : Nat)
deriving DecidableEq, Repr

/-- Why a group entered FAULT (R82). -/
inductive FaultCause where
  | pgTimeout
  | pgLost
  | powerFault
deriving DecidableEq, Repr

/-- One group channel (Table 5-1). `faultGuard` counts the ms that must still pass since entry into POWERING before a power fault
can be taken (R77). -/
structure Group where
  state      : GroupState
  timer      : SeqTimer
  grantClass : Option WakeClass
  watch      : Bool
  lastFault  : Option FaultCause
  faultGuard : Nat
deriving DecidableEq, Repr

/-! ### Mode controller (chapter 6) -/

/-- The three vehicle modes. -/
inductive Mode where
  | unconfigured
  | drive
  | parked
deriving DecidableEq, Repr

/-- Table 6-1; `secondLeft` counts the ms to the next full second of the mode time (R106). -/
structure ModeController where
  mode       : Mode
  modeTime   : Nat
  secondLeft : Nat
  parkSettle : Option Nat
  ma1        : Bool
  ma0        : Bool
  fb         : Bool
  configured : Bool
deriving DecidableEq, Repr

/-! ### Charge account (chapter 7) -/

/-- The budget levels OPEN, RESTRICTED, ESSENTIAL and EXHAUSTED (R125). -/
inductive BudgetLevel where
  | opened
  | restricted
  | essential
  | exhausted
deriving DecidableEq, Repr

/-- Table 7-1. `drawn` holds u_G0 to u_G7; `timer` is the accounting timer with the ms left. -/
structure ChargeAccount where
  loaded    : Bool
  pActive   : Nat
  bRem      : Nat
  spent     : Nat
  cut       : Nat
  shortfall : Nat
  carry     : Nat
  drawn     : Vector Nat 8
  inrush    : Nat
  l1        : Nat
  l2        : Nat
  l3        : Nat
  level     : BudgetLevel
  timer     : Option Nat
deriving DecidableEq, Repr

/-! ### Storm supervisor and wake history (chapter 8) -/

/-- Table 8-1, with timers in ms. -/
structure StormRecord where
  count      : Nat
  window     : Option Nat
  quarantine : Option Nat
deriving DecidableEq, Repr

/-- Table 8-2. -/
inductive WakeOutcome where
  | granted
  | refusedBudget
  | refusedFault
  | refusedQuarantine
  | quarantined
  | quarantineEnd
  | fault
  | forcedDrain
deriving DecidableEq, Repr

/-- The cause kind of a record or of a wake request (Tables 3-3 and 8-3). -/
inductive Cause where
  | frame
  | line
  | mgmt
  | mode
  | supervision
deriving DecidableEq, Repr

/-- The source of a wake request (Table 3-3). -/
inductive Source where
  | port (p : PortId)
  | gpi (k : GpiId)
  | ign
deriving DecidableEq, Repr

/-- Table 8-3; an absent field is `none`. -/
structure WakeRecord where
  outcome    : WakeOutcome
  group      : GroupId
  mode       : Mode
  cls        : Option WakeClass
  cause      : Cause
  source     : Option Source
  rule       : Option Nat
  ident      : Option Ident
  faultCause : Option FaultCause
  modeTime   : Nat
  bRem       : Nat
deriving DecidableEq, Repr

/-- The records held, newest first, and the overwrite count (R140). -/
structure WakeHistory where
  records    : List WakeRecord
  overwrites : Nat
deriving DecidableEq, Repr

/-! ### Management agent (chapter 9) -/

/-- R151. -/
inductive AgentState where
  | idle
  | verifying
  | copying
deriving DecidableEq, Repr

/-- The role by which the table pointer names a bank (R153). -/
inductive BankRole where
  | active
  | standby
deriving DecidableEq, Repr

/-- The table pointer (R153). -/
structure TablePointer where
  role   : BankRole
  page   : Fin 16
  column : Fin 128
deriving DecidableEq, Repr

/-- The management agent. `latch` is the read latch, `none` while it is invalid. `linger` is the management linger timer. `request`
holds the data bytes of the request that port 0 has diverted and the agent has still to take, if there is one (R146). `opLeft` bounds the
verification or the copy in flight (R28, R37). -/
structure Agent where
  state   : AgentState
  pointer : TablePointer
  latch   : Option (Vector Byte 6)
  linger  : Option Nat
  request : Option (List Byte)
  opLeft  : Option Nat
deriving DecidableEq, Repr

/-! ### The whole part -/

/-- The state of the part. `pg` holds the levels of PG0-PG7 (R77). `pending` is the model's own: the commands that wait, the next one
first. -/
structure State where
  ports   : Vector Port 5
  store   : RuleStore
  lines   : LineMonitor
  pg      : BitVec 8
  hold    : List HoldEntry
  groups  : Vector Group 8
  mode    : ModeController
  charge  : ChargeAccount
  storm   : Vector StormRecord 8
  history : WakeHistory
  agent   : Agent
  pending : List Instr
deriving DecidableEq, Repr

/-! ### After power-on -/

/-- A line after power-on: debounced and previous level are the level sampled at the pin, no timer runs (R57). -/
def Line.atPowerOn (level : Bool) : Line :=
  { pin := level, level := level, prev := level, debounce := none }

/-- A port controller after power-on (R6, R17). -/
def Port.atPowerOn : Port :=
  { state := .listen, queue := [], attempts := 0, attempt := .idle, counters := #v[0, 0, 0, 0, 0, 0, 0, 0, 0, 0, 0],
    txErrors := 0, rxErrors := 0, waiting := none }

/-- A group channel after power-on (R75). -/
def Group.atPowerOn : Group :=
  { state := .off, timer := .stopped, grantClass := none, watch := false, lastFault := none, faultGuard := 0 }

/-- A storm record after power-on (R131). -/
def StormRecord.atPowerOn : StormRecord :=
  { count := 0, window := none, quarantine := none }

/-- The charge account after power-on (R113). -/
def ChargeAccount.atPowerOn : ChargeAccount :=
  { loaded := false, pActive := 0, bRem := 0, spent := 0, cut := 0, shortfall := 0, carry := 0,
    drawn := tabGroups (fun _ => 0), inrush := 0, l1 := 0, l2 := 0, l3 := 0, level := .opened, timer := none }

/-- The rule store after power-on (R19); DESIGN CHOICE: bank 0 holds the role ACTIVE (log 6). -/
def RuleStore.atPowerOn : RuleStore :=
  { bank0 := [], bank1 := [], activeIsOne := false, standby := .dirty, verifyFault := none, lockPages := 0 }

/-- The management agent after power-on (R148, R151, R153). -/
def Agent.atPowerOn : Agent :=
  { state := .idle, pointer := { role := .active, page := 0, column := 0 }, latch := none, linger := none,
    request := none, opLeft := none }

/-- The mode controller after power-on (R100), with the straps as sampled (R101). -/
def ModeController.atPowerOn (pins : PowerOnPins) : ModeController :=
  { mode := .unconfigured, modeTime := 0, secondLeft := 1000, parkSettle := none, ma1 := pins.ma1, ma0 := pins.ma0,
    fb := pins.fb, configured := false }

/-- Every item of state at its value after power-on, with the inputs as sampled (R100). -/
def State.atPowerOn (pins : PowerOnPins) : State :=
  { ports := tabPorts (fun _ => Port.atPowerOn)
    store := RuleStore.atPowerOn
    lines :=
      { ign := Line.atPowerOn pins.ign, svc := Line.atPowerOn pins.svc,
        gpi := tabGroups (fun k => Line.atPowerOn (pins.gpi.getLsbD k)) }
    pg := pins.pg
    hold := []
    groups := tabGroups (fun _ => Group.atPowerOn)
    mode := ModeController.atPowerOn pins
    charge := ChargeAccount.atPowerOn
    storm := tabGroups (fun _ => StormRecord.atPowerOn)
    history := { records := [], overwrites := 0 }
    agent := Agent.atPowerOn
    pending := [] }

/-- The machine right after reset. DESIGN CHOICE: every strap and input is low (log 5), so the fallback policy is FALLBACK-QUIET. -/
def State.reset : State := State.atPowerOn PowerOnPins.allLow

end Sys2Proof.Machine
end

