-- ==== Sys2Proof/Machine/Memory.lean ====
section
/-! DEFINITION. The banks of the rule store as addressed memory in one canonical form: addresses strictly rising and within the bank,
and no entry equal to the power-on content 0 (R19). -/

namespace Sys2Proof.Machine

/-- What a byte of a bank reads as before anything has written it (R19). -/
def Memory.unwritten : Byte := 0

/-- The byte at an offset. -/
def Memory.read : Memory → Nat → Byte
  | [], _ => Memory.unwritten
  | (a, b) :: rest, x => if a = x then b else Memory.read rest x

/-- Store a byte at an offset, keeping the canonical form. -/
def Memory.write : Memory → Nat → Byte → Memory
  | [], x, v => if v = Memory.unwritten then [] else [(x, v)]
  | (a, b) :: rest, x, v =>
    if x < a then (if v = Memory.unwritten then (a, b) :: rest else (x, v) :: (a, b) :: rest)
    else if x = a then (if v = Memory.unwritten then rest else (x, v) :: rest)
    else (a, b) :: Memory.write rest x v

/-- Addresses from `lo` on, strictly rising, below the bank's end; no byte with the unwritten value. -/
def Memory.wfFrom (lo : Nat) : Memory → Bool
  | [] => true
  | (a, b) :: rest => decide (lo ≤ a) && decide (a < Config.bankBytes) && decide (b ≠ Memory.unwritten) && Memory.wfFrom (a + 1) rest

/-- The canonical form of a bank. -/
def Memory.wf (m : Memory) : Bool := Memory.wfFrom 0 m

/-- The bank that holds the role ACTIVE. -/
def RuleStore.active (r : RuleStore) : Memory := if r.activeIsOne then r.bank1 else r.bank0

/-- The bank that holds the role STANDBY. -/
def RuleStore.standbyBank (r : RuleStore) : Memory := if r.activeIsOne then r.bank0 else r.bank1

/-- The bank that a role names (R153). -/
def RuleStore.bankOf (r : RuleStore) : BankRole → Memory
  | .active => r.active
  | .standby => r.standbyBank

/-- Replace the bytes of the standby bank. -/
def RuleStore.setStandbyBank (r : RuleStore) (m : Memory) : RuleStore :=
  if r.activeIsOne then { r with bank0 := m } else { r with bank1 := m }

/-- The banks exchange roles (R33). -/
def RuleStore.exchange (r : RuleStore) : RuleStore := { r with activeIsOne := !r.activeIsOne }

/-- The active bank of the part. -/
def State.activeBank (s : State) : Memory := s.store.active

end Sys2Proof.Machine
end

