-- ==== Sys2Proof/Machine/Operands.lean ====
section
/-! DEFINITION. How the bytes of a bank are read as fields, with the treatment of each (R20 to R27, R165, R166, chapter 11), and how
values are laid out as bytes. -/

namespace Sys2Proof.Machine

/-! ### Numbers, most significant byte first (R20) -/

/-- The nearest value between `lo` and `hi`. -/
def clamp (lo hi n : Nat) : Nat := max lo (min n hi)

/-- Two bytes of a bank as a number. -/
def Memory.u16 (m : Memory) (a : Nat) : Nat := (m.read a).toNat * 256 + (m.read (a + 1)).toNat

/-- Four bytes of a bank as a number. -/
def Memory.u32 (m : Memory) (a : Nat) : Nat := m.u16 a * 65536 + m.u16 (a + 2)

/-- Four bytes of a bank as a word. -/
def Memory.word32 (m : Memory) (a : Nat) : BitVec 32 :=
  m.read a ++ m.read (a + 1) ++ m.read (a + 2) ++ m.read (a + 3)

/-- Two bytes of a bank as a word. -/
def Memory.word16 (m : Memory) (a : Nat) : BitVec 16 := m.read a ++ m.read (a + 1)

/-- A number as one byte. -/
def byteOf (n : Nat) : Byte := BitVec.ofNat 8 n

/-- A number as two bytes. -/
def bytes16 (n : Nat) : List Byte := [byteOf (n / 256), byteOf n]

/-- A number as four bytes. -/
def bytes32 (n : Nat) : List Byte := bytes16 (n / 65536) ++ bytes16 n

/-- A class field; a stored value above 3 is taken as 3 (R20). -/
def classOf (n : Nat) : WakeClass := if h : n < 4 then ⟨n, h⟩ else 3

/-! ### Global parameters in use (Table 2-2, Table 11-2, R21, R22) -/

/-- The bank mark that verifies. -/
def bankMark : Nat := 0x5734

/-- Park budget P, mAs. -/
def Memory.parkBudget (m : Memory) : Nat := m.u32 2

/-- Base draw B, mA. -/
def Memory.baseDraw (m : Memory) : Nat := (m.read 6).toNat

/-- Effective reserve fraction Q1 (R22). -/
def Memory.q1 (m : Memory) : Nat := m.u16 7

/-- Effective reserve fraction Q2 (R22). -/
def Memory.q2 (m : Memory) : Nat := max (m.u16 7) (m.u16 9)

/-- Effective reserve fraction Q3 (R22). -/
def Memory.q3 (m : Memory) : Nat := max m.q2 (m.u16 11)

/-- Hold time H, ms. -/
def Memory.holdTime (m : Memory) : Nat := clamp 50 2000 (m.u16 13)

/-- Storm window W, s. -/
def Memory.stormWindow (m : Memory) : Nat := clamp 10 3600 (m.u16 15)

/-- Storm limit N. -/
def Memory.stormLimit (m : Memory) : Nat := clamp 1 63 (m.read 17).toNat

/-- Quarantine time, min; 0 means until the next DRIVE entry. -/
def Memory.quarantineTime (m : Memory) : Nat := (m.read 18).toNat

/-- Management linger, ms. -/
def Memory.mgmtLinger (m : Memory) : Nat := clamp 500 10000 (m.u16 19)

/-- Park settle, s. -/
def Memory.parkSettle (m : Memory) : Nat := clamp 5 300 (m.u16 21)

/-- Default route; members above 4 are ignored (R20). -/
def Memory.defaultRoute (m : Memory) : PortSet := (m.read 23).setWidth 5

/-! ### Group records (Table 2-3, Table 11-3, R23) -/

/-- A power-good mode: wait for power-good, or a fixed delay in ms. -/
inductive PgMode where
  | wait
  | delay (ms : Nat)
deriving DecidableEq, Repr

/-- The parameters that a group channel works with. -/
structure GroupParams where
  present     : Bool
  driveForced : Bool
  pgMode      : PgMode
  bound       : Option PortId
  draw        : Nat
  inrush      : Nat
  pgTimeout   : Nat
  settle      : Nat
  tmin        : Nat
  drain       : Nat
deriving DecidableEq, Repr

/-- A port number field; a value above 4 names no port. -/
def portOf (n : Nat) : Option PortId := if h : n < 5 then some ⟨n, h⟩ else none

/-- A power-good mode code; other codes are taken as WAIT (R20). -/
def pgModeOf (code : Nat) : PgMode :=
  match code with
  | 1 => .delay 16
  | 2 => .delay 32
  | 3 => .delay 64
  | 4 => .delay 128
  | _ => .wait

/-- The offset of the record of a group. -/
def groupOffset (g : GroupId) : Nat := 32 + 12 * g.val

/-- The present flag of a group. -/
def Memory.present (m : Memory) (g : GroupId) : Bool := (m.read (groupOffset g)).getLsbD 7

/-- The record of a group as it is taken into use. A group that is not present is bound to no port and is not drive-forced, and its
draw does not count (R23, R120). -/
def Memory.groupRecord (m : Memory) (g : GroupId) : GroupParams :=
  let a := groupOffset g
  let here := m.present g
  { present := here
    driveForced := here && (m.read a).getLsbD 6
    pgMode := pgModeOf ((m.read a).toNat % 8)
    bound := if here then portOf (m.read (a + 1)).toNat else none
    draw := if here then m.u16 (a + 2) % 4096 else 0
    inrush := (m.read (a + 4)).toNat
    pgTimeout := clamp 10 500 (m.u16 (a + 5))
    settle := (m.read (a + 7)).toNat
    tmin := clamp 100 60000 (m.u16 (a + 8))
    drain := min (m.u16 (a + 10)) 10000 }

/-- The built-in parameters of UNCONFIGURED (Table 5-3, R96). -/
def builtInParams : GroupParams :=
  { present := true, driveForced := false, pgMode := .delay 64, bound := none, draw := 0, inrush := 0, pgTimeout := 500,
    settle := 10, tmin := 60000, drain := 2000 }

/-- The parameters in use for a group: its record in DRIVE and PARKED, the built-in ones in UNCONFIGURED (R23, R96). -/
def State.params (s : State) (g : GroupId) : GroupParams :=
  match s.mode.mode with
  | .unconfigured => builtInParams
  | .drive | .parked => s.activeBank.groupRecord g

/-! ### Line records (Table 2-4, Table 11-4, R24) -/

/-- Which debounced edges make a wake request. -/
inductive EdgeKind where
  | none
  | rise
  | fall
  | both
deriving DecidableEq, Repr

/-- A line record. -/
structure LineRecord where
  edge : EdgeKind
  cond : Nat
  wake : GroupSet
  cls  : WakeClass
deriving DecidableEq, Repr

/-- An edge code; other values are read as NONE (R20). -/
def edgeOf (code : Nat) : EdgeKind :=
  match code with
  | 1 => .rise
  | 2 => .fall
  | 3 => .both
  | _ => .none

/-- The offset of the record of a general-purpose input. -/
def lineOffset (k : GpiId) : Nat := 128 + 8 * k.val

/-- The record of a general-purpose input; a condition code above 31 is read as 15 (R20). -/
def Memory.lineRecord (m : Memory) (k : GpiId) : LineRecord :=
  let a := lineOffset k
  let c := (m.read (a + 1)).toNat
  { edge := edgeOf (m.read a).toNat, cond := if c ≤ 31 then c else 15, wake := m.read (a + 2),
    cls := classOf (m.read (a + 3)).toNat }

/-! ### Rule entries (R25 to R27, R166, Tables 11-5 to 11-7) -/

/-- The action type of a rule entry. -/
inductive Action where
  | pass
  | block
  | report
deriving DecidableEq, Repr

/-- A SHORT or LONG entry. A SHORT entry is read as one whose identifier mask is full, whose minimum data length is 0 and whose
window mask is 0, which matches the same frames (R41, Table 3-1). -/
structure RuleEntry where
  long    : Bool
  action  : Action
  source  : PortSet
  forward : PortSet
  wake    : GroupSet
  cls     : WakeClass
  minLen  : Nat
  cond    : Nat
  ext     : Bool
  hold    : Bool
  cont    : Bool
  id      : BitVec 29
  idMask  : BitVec 29
  window  : Nat
  winVal  : BitVec 16
  winMask : BitVec 16
deriving DecidableEq, Repr

/-- What stands at an entry position. -/
inductive EntryAt where
  | unknown
  | last
  | rule (e : RuleEntry)
deriving DecidableEq, Repr

/-- Table 11-6 and Table 11-7: the fields of the entry at an offset. -/
def Memory.entryFields (m : Memory) (a : Nat) (long : Bool) (action : Action) : RuleEntry :=
  let c := m.word32 a
  let i := m.word32 (a + 4)
  let x := m.word32 (a + 8)
  { long := long
    action := action
    source := c.extractLsb' 24 5
    forward := c.extractLsb' 19 5
    wake := c.extractLsb' 11 8
    cls := classOf (c.extractLsb' 9 2).toNat
    minLen := if long then (c.extractLsb' 5 4).toNat else 0
    cond := (c.extractLsb' 0 5).toNat
    ext := i.getLsbD 31
    hold := i.getLsbD 30
    cont := i.getLsbD 29
    id := i.extractLsb' 0 29
    idMask := if long then x.extractLsb' 0 29 else BitVec.allOnes 29
    window := if long then (x.extractLsb' 29 3).toNat else 0
    winVal := if long then m.word16 (a + 12) else 0
    winMask := if long then m.word16 (a + 14) else 0 }

/-- The entry at an offset, by its entry code (R166, Table 11-5). -/
def Memory.entryAt (m : Memory) (a : Nat) : EntryAt :=
  match (m.read a).toNat / 32 with
  | 1 => .rule (m.entryFields a false .pass)
  | 2 => .rule (m.entryFields a false .block)
  | 3 => .rule (m.entryFields a false .report)
  | 4 => .rule (m.entryFields a true .pass)
  | 5 => .rule (m.entryFields a true .block)
  | 6 => .rule (m.entryFields a true .report)
  | 7 => .last
  | _ => .unknown

/-- The bytes that a SHORT or LONG entry takes (Table 2-5). -/
def RuleEntry.bytes (e : RuleEntry) : Nat := if e.long then 16 else 8

/-! ### Identifiers -/

/-- An identifier as a 29-bit value; a standard one stands in the low eleven bits. -/
def identBits : Ident → BitVec 29
  | .std id => id.setWidth 29
  | .ext id => id

/-- Whether an identifier has the extended format. -/
def identIsExt : Ident → Bool
  | .std _ => false
  | .ext _ => true

/-- The bits of an identifier that count for its format: eleven of a standard one, all of an extended one (R26, R41). -/
def formatMask (ext : Bool) : BitVec 29 := if ext then BitVec.allOnes 29 else 0x7FF

/-- Bytes of an identifier with its format: bit 31 the format, bits 28-0 the identifier (11.1). -/
def identBytes (i : Ident) : List Byte := bytes32 ((if identIsExt i then 2147483648 else 0) + (identBits i).toNat)

end Sys2Proof.Machine
end

