-- ==== Sys2Proof/Machine/Flags.lean ====
section
/-! DEFINITION. What is computed from the state and not held in it: outputs, awakeness, prospects, the level that is read, the grant test,
and the condition codes. -/

namespace Sys2Proof.Machine

/-! ### Access to ports, groups and storm records -/

/-- A port controller. -/
def State.port (s : State) (p : PortId) : Port := s.ports.get p

/-- Replace a port controller. -/
def State.setPort (s : State) (p : PortId) (x : Port) : State := { s with ports := s.ports.set p.val x p.isLt }

/-- A group channel. -/
def State.group (s : State) (g : GroupId) : Group := s.groups.get g

/-- Replace a group channel; the blocks that depend on it are told by `sync`. -/
def State.setGroup (s : State) (g : GroupId) (x : Group) : State := { s with groups := s.groups.set g.val x g.isLt }

/-- The storm record of a group. -/
def State.stormOf (s : State) (g : GroupId) : StormRecord := s.storm.get g

/-- Replace the storm record of a group. -/
def State.setStorm (s : State) (g : GroupId) (x : StormRecord) : State := { s with storm := s.storm.set g.val x g.isLt }

/-- A debounced input line. -/
def State.line (s : State) : InputLine → Line
  | .ign => s.lines.ign
  | .svc => s.lines.svc
  | .gpi k => s.lines.gpi.get k

/-- Replace a debounced input line. -/
def State.setLine (s : State) (l : InputLine) (x : Line) : State :=
  match l with
  | .ign => { s with lines := { s.lines with ign := x } }
  | .svc => { s with lines := { s.lines with svc := x } }
  | .gpi k => { s with lines := { s.lines with gpi := s.lines.gpi.set k.val x k.isLt } }

/-! ### Group states and outputs (R76) -/

/-- POWERING, RELEASING, UP and DRAINING: the supply switch is closed. -/
def GroupState.supplyOn : GroupState → Bool
  | .powering | .releasing | .up | .draining => true
  | .off | .fault | .quarantined => false

/-- RELEASING and UP: the wake line is asserted. -/
def GroupState.wakeOn : GroupState → Bool
  | .releasing | .up => true
  | .off | .powering | .draining | .fault | .quarantined => false

/-- UP and DRAINING: the group makes its bound port awake (R5). -/
def GroupState.wakesPort : GroupState → Bool
  | .up | .draining => true
  | .off | .powering | .releasing | .fault | .quarantined => false

/-- POWERING and RELEASING: the group is on its way up (R54 case 3). -/
def GroupState.comingUp : GroupState → Bool
  | .powering | .releasing => true
  | .off | .up | .draining | .fault | .quarantined => false

/-- The output SUPk. -/
def State.supply (s : State) (g : GroupId) : Bool := (s.group g).state.supplyOn

/-- The output WAKk. -/
def State.wakeLine (s : State) (g : GroupId) : Bool := (s.group g).state.wakeOn

/-- Table 5-1: the linger of a group. -/
inductive LingerView where
  | running (ms : Nat)
  | suspended
  | notApplicable
deriving DecidableEq, Repr

/-- The linger of a group: running with its linger timer, suspended in UP with no timer, else not applicable (R75, R80). -/
def lingerView (x : Group) : LingerView :=
  match x.timer, x.state with
  | .linger ms, _ => .running ms
  | .stopped, .up => .suspended
  | _, _ => .notApplicable

/-! ### Fallback policy and identifiers (R101) -/

/-- FALLBACK-AWAKE is selected by FB high, FALLBACK-QUIET by FB low. -/
def State.fallbackAwake (s : State) : Bool := s.mode.fb

/-- The management request identifier that MA1 and MA0 select. -/
def State.requestId (s : State) : BitVec 11 :=
  match s.mode.ma1, s.mode.ma0 with
  | false, false => 0x6A0
  | false, true => 0x6A2
  | true, false => 0x6A4
  | true, true => 0x6A6

/-- The management response identifier, the request identifier plus one. -/
def State.responseId (s : State) : BitVec 11 := s.requestId + 1

/-! ### Awakeness and prospects (R5, R6, R69) -/

/-- The port to which a group is bound; in UNCONFIGURED no group is bound (R6). -/
def State.boundPort (s : State) (g : GroupId) : Option PortId := (s.params g).bound

/-- Whether a group makes a port awake: its bound port in DRIVE and PARKED, every port in UNCONFIGURED (R5, R6). -/
def State.groupWakes (s : State) (g : GroupId) (p : PortId) : Bool :=
  (s.group g).state.wakesPort && (s.mode.mode == .unconfigured || s.boundPort g == some p)

/-- The awake condition of a port (R5, R6). -/
def State.awake (s : State) (p : PortId) : Bool :=
  allGroups.any (fun g => s.groupWakes g p) || (p == 0 && s.agent.linger.isSome)

/-- A port has prospects while a group bound to it is POWERING, RELEASING, UP or DRAINING (R69). -/
def State.prospects (s : State) (p : PortId) : Bool :=
  allGroups.any (fun g => (s.group g).state.supplyOn && s.boundPort g == some p)

/-- A group bound to the port is POWERING or RELEASING (R54 case 3). -/
def State.groupComing (s : State) (p : PortId) : Bool :=
  allGroups.any (fun g => (s.group g).state.comingUp && s.boundPort g == some p)

/-- The hold queue holds an entry for the port (R61: the port has a held run). -/
def State.hasHeld (s : State) (p : PortId) : Bool := s.hold.any (fun e => e.dest == p)

/-! ### CAN fault confinement (R12; PRESUMED, log 8) -/

/-- The port controller is bus-off. -/
def portBusOff (x : Port) : Bool := decide (Config.busOffAbove < x.txErrors)

/-- The port controller is error-passive. -/
def portErrorPassive (x : Port) : Bool :=
  !portBusOff x && (decide (Config.errorPassiveAbove < x.txErrors) || decide (Config.errorPassiveAbove < x.rxErrors))

/-! ### Budget level and grant test (R117, R124 to R127) -/

/-- The level that B_rem and the thresholds give (R125). -/
def levelOf (bRem l2 l3 : Nat) : BudgetLevel :=
  if bRem = 0 then .exhausted else if l3 ≤ bRem then .opened else if l2 ≤ bRem then .restricted else .essential

/-- The level as it is read: OPEN in UNCONFIGURED (R44, R117). -/
def State.levelRead (s : State) : BudgetLevel :=
  if s.mode.mode = .unconfigured then .opened else s.charge.level

/-- A reserve threshold (R124). -/
def threshold (pActive q : Nat) : Nat := pActive * q / 65536

/-- cost-from-up (R126). -/
def costFromUp (x : GroupParams) : Nat := (x.draw * x.tmin + 999) / 1000

/-- cost-from-off (R126). -/
def costFromOff (x : GroupParams) : Nat := x.inrush + costFromUp x

/-- The grant test of PARKED (R127). -/
def parkedGrant (a : ChargeAccount) (c : WakeClass) (cost : Nat) : Bool :=
  match c with
  | 0 => true
  | 1 => decide (0 < a.bRem) && decide (cost + a.l1 ≤ a.bRem)
  | 2 => decide (0 < a.bRem) && decide (cost + a.l2 ≤ a.bRem)
  | 3 => decide (0 < a.bRem) && decide (cost + a.l3 ≤ a.bRem)

/-- The grant test; in DRIVE and UNCONFIGURED every class is granted (R127). -/
def State.grants (s : State) (c : WakeClass) (cost : Nat) : Bool :=
  match s.mode.mode with
  | .parked => parkedGrant s.charge c cost
  | .drive | .unconfigured => true

/-! ### Condition codes (Table 3-2, R43 to R45) -/

/-- Whether a condition code is true now, for a reference set of ports. -/
def State.condition (s : State) (ref : PortSet) (code : Nat) : Bool :=
  match code with
  | 0 => true
  | 1 => s.mode.mode == .parked
  | 2 => s.mode.mode == .drive
  | 3 => s.levelRead == .opened
  | 4 => s.levelRead == .opened || s.levelRead == .restricted
  | 5 => s.levelRead == .opened || s.levelRead == .restricted || s.levelRead == .essential
  | 6 => s.levelRead == .exhausted
  | 7 => allGroups.any (fun g => (s.group g).state == .up)
  | 8 => allPorts.all (fun p => !ref.getLsbD p.val || s.awake p)
  | 9 => allPorts.all (fun p => !ref.getLsbD p.val || !s.awake p)
  | 10 => decide (s.hold.length < Config.holdCrowded)
  | 11 => decide (Config.holdCrowded ≤ s.hold.length)
  | 12 => s.lines.svc.level
  | 13 => allGroups.any (fun g => (s.group g).state == .quarantined)
  | 14 => s.mode.parkSettle.isSome
  | 15 => false
  | n + 16 =>
    if h : n < 16 then
      let level := (s.lines.gpi.get ⟨n / 2, by omega⟩).level
      if n % 2 = 0 then level else !level
    else false

/-- The reference set of a line record: the bound ports of the present groups that its wake set names (R45). -/
def State.lineReference (s : State) (wake : GroupSet) : PortSet :=
  allGroups.foldl
    (fun acc g =>
      match wake.getLsbD g.val, s.boundPort g with
      | true, some p => acc ||| (1#5 <<< p.val)
      | _, _ => acc) 0

end Sys2Proof.Machine
end

