-- ==== Sys2Proof/Machine/Ops.lean ====
section
/-! DEFINITION. The named operations that the meanings share: counters, transmit queues, the hold queue, the wake history, group
transitions, the charge account, wake requests, mode entries, and the passing of time. -/

namespace Sys2Proof.Machine

/-! ### Counters (R17) -/

/-- Add to a quantity that stops at a limit (conventions, "Saturating quantities"). -/
def satAdd (limit a n : Nat) : Nat := a + min n (limit - a)

/-- The place of a counter in a port. -/
def Counter.index : Counter → Fin 11
  | .rxOk => 0
  | .rxErr => 1
  | .rxRemote => 2
  | .rxBlocked => 3
  | .txOk => 4
  | .txUndelivered => 5
  | .dropQfull => 6
  | .dropAsleep => 7
  | .holdOverflow => 8
  | .holdExpired => 9
  | .holdDiscarded => 10

/-- The value of a counter. -/
def portCounter (x : Port) (c : Counter) : Nat := x.counters.get c.index

/-- Count `n` occurrences; the counter stops at 65535 (R17). -/
def countBy (c : Counter) (n : Nat) (x : Port) : Port :=
  { x with counters := x.counters.set c.index.val (satAdd Config.counterMax (portCounter x c) n) c.index.isLt }

/-- Count one occurrence on a port. -/
def State.count (s : State) (p : PortId) (c : Counter) : State := s.setPort p (countBy c 1 (s.port p))

/-- The value of a counter of a port. -/
def State.counter (s : State) (p : PortId) (c : Counter) : Nat := portCounter (s.port p) c

/-! ### CAN error counters (R12; PRESUMED, log 8) -/

/-- A good reception lowers the receive error count; from error-passive it returns to a value that the protocol leaves open
(log 9). -/
def rxErrorsAfterGood (n : Nat) : Nat :=
  if Config.errorPassiveAbove < n then 119 + Config.receiveErrorReturn.val else n - 1

/-- What the flags behind a frame add to the receive error count of a receiver: one for a further error, eight for a dominant bit where
none may be. -/
def receiverFlagCount (flags : FlagErrors) : Nat := flags.again * Config.rxErrorStep + flags.dominant * Config.flagErrorStep

/-- What the flags behind an attempt add to the transmit error count of the transmitter: eight for each error. -/
def transmitterFlagCount (flags : FlagErrors) : Nat := flags.again * Config.txErrorStep + flags.dominant * Config.flagErrorStep

/-- A port after a good reception. -/
def portReceivedGood (flags : FlagErrors) (x : Port) : Port :=
  { x with rxErrors := satAdd Config.receiveErrorMax (rxErrorsAfterGood x.rxErrors) (receiverFlagCount flags) }

/-- A port after a reception with an error. -/
def portReceivedBad (flags : FlagErrors) (x : Port) : Port :=
  { x with rxErrors := satAdd Config.receiveErrorMax x.rxErrors (Config.rxErrorStep + receiverFlagCount flags) }

/-- The transmit error count of a port after an acknowledged attempt. -/
def txErrorsAfterGood (flags : FlagErrors) (x : Port) : Nat := x.txErrors - 1 + transmitterFlagCount flags

/-- The transmit error count of a port after an attempt without acknowledgement: an error-passive controller that reads no dominant bit in
its passive error flag does not count the missing acknowledgement. -/
def txErrorsAfterSilence (dominant : Bool) (flags : FlagErrors) (x : Port) : Nat :=
  let own := if portErrorPassive x && !dominant then 0 else Config.txErrorStep
  x.txErrors + own + transmitterFlagCount flags

/-- The transmit error count of a port after an attempt that an error ended. -/
def txErrorsAfterError (place : ErrorPlace) (flags : FlagErrors) (x : Port) : Nat :=
  let own := match place with
    | .beyondArbitration | .inArbitration => Config.txErrorStep
    | .arbitrationStuffBit => 0
  x.txErrors + own + transmitterFlagCount flags

/-! ### Transmit queues (R8 to R11) -/

/-- A port changes from ACTIVE to LISTEN: its queue is emptied, waiting frames count in TX_UNDELIVERED, and an attempt on the bus is
completed (R8). -/
def flushPort (x : Port) : Port :=
  let waiting := match x.attempt with
    | .head => x.queue.length - 1
    | .idle | .completing _ => x.queue.length
  let attempt := match x.attempt, x.queue with
    | .head, f :: _ => .completing f
    | .head, [] => .idle
    | .idle, _ => .idle
    | .completing f, _ => .completing f
  { countBy .txUndelivered waiting x with state := .listen, queue := [], attempts := 0, attempt := attempt }

/-- The port state follows the awake condition (R5, R7, R8). -/
def syncPort (awake : Bool) (x : Port) : Port :=
  match awake, x.state with
  | true, _ => { x with state := .active }
  | false, .active => flushPort x
  | false, .listen => x

/-- An offer to a port's transmit queue (R9). -/
def offerPort (f : Frame) (x : Port) : Port :=
  match x.state with
  | .active => if x.queue.length < Config.queueMax then { x with queue := x.queue ++ [f] } else countBy .dropQfull 1 x
  | .listen => countBy .dropAsleep 1 x

/-- A frame is offered to the transmit queue of a port (R9). -/
def State.offer (s : State) (p : PortId) (f : Frame) : State := s.setPort p (offerPort f (s.port p))

/-- The head of the queue has been acknowledged and leaves it (R10). -/
def headDelivered (x : Port) : Port :=
  { countBy .txOk 1 x with queue := x.queue.tail, attempts := 0, attempt := .idle }

/-- An attempt of the head of the queue has failed; at the eighth the frame is given up (R10). -/
def headFailed (x : Port) : Port :=
  if x.attempts + 1 < Config.attemptMax then { x with attempts := x.attempts + 1, attempt := .idle }
  else { countBy .txUndelivered 1 x with queue := x.queue.tail, attempts := 0, attempt := .idle }

/-- The completing attempt of a flushed frame ends without delivery (R8). -/
def completingLost (x : Port) : Port := { countBy .txUndelivered 1 x with attempt := .idle }

/-! ### Awakeness and prospects are made known (R5, R69, R76) -/

/-- The number of hold entries for a port. -/
def State.heldFor (s : State) (p : PortId) : Nat := (s.hold.filter (fun e => e.dest == p)).length

/-- Each port state follows its awake condition, and each port that has no prospects loses its held run (R5, R6, R69, R76). -/
def State.sync (s : State) : State :=
  { s with
    ports := tabPorts (fun p =>
      let x := syncPort (s.awake p) (s.port p)
      if s.prospects p then x else countBy .holdDiscarded (s.heldFor p) x)
    hold := s.hold.filter (fun e => s.prospects e.dest) }

/-- A group changes, and the blocks that depend on it are told in the same event (R76). -/
def State.changeGroup (s : State) (g : GroupId) (x : Group) : State := (s.setGroup g x).sync

/-! ### Hold queue (R62, R63) -/

/-- An offer to the hold queue: an entry at the end, or HOLD_OVERFLOW of the port when 48 are held (R62, R63). -/
def State.holdFrame (s : State) (p : PortId) (f : Frame) (rule : Option Nat) : State :=
  if s.hold.length < Config.holdMax then
    { s with hold := s.hold ++ [{ frame := f, dest := p, remaining := s.activeBank.holdTime, rule := rule }] }
  else s.count p .holdOverflow

/-! ### Wake requests and the wake history (Table 3-3, R140 to R143) -/

/-- Table 3-3. -/
structure WakeRequest where
  set    : GroupSet
  cls    : WakeClass
  cause  : Cause
  source : Option Source
  rule   : Option Nat
  ident  : Option Ident
deriving DecidableEq, Repr

/-- Write a record; when 32 are held the oldest is overwritten (R140). -/
def WakeHistory.push (h : WakeHistory) (r : WakeRecord) : WakeHistory :=
  if h.records.length < Config.historyMax then { h with records := r :: h.records }
  else
    { records := r :: h.records.take (Config.historyMax - 1),
      overwrites := satAdd Config.counterMax h.overwrites 1 }

/-- A record caused by a wake request carries the request's fields (R142, R143). -/
def State.recordRequest (s : State) (o : WakeOutcome) (g : GroupId) (r : WakeRequest) : State :=
  let w : WakeRecord :=
    { outcome := o, group := g, mode := s.mode.mode, cls := some r.cls, cause := r.cause, source := r.source, rule := r.rule,
      ident := r.ident, faultCause := none, modeTime := s.mode.modeTime, bRem := s.charge.bRem }
  { s with history := s.history.push w }

/-- A record without class, rule index and identifier (R142, R143). -/
def State.recordPlain (s : State) (o : WakeOutcome) (g : GroupId) (cause : Cause) (source : Option Source)
    (fault : Option FaultCause) : State :=
  let w : WakeRecord :=
    { outcome := o, group := g, mode := s.mode.mode, cls := none, cause := cause, source := source, rule := none,
      ident := none, faultCause := fault, modeTime := s.mode.modeTime, bRem := s.charge.bRem }
  { s with history := s.history.push w }

/-! ### Group transitions (R78 to R82) -/

/-- A channel in OFF: outputs off, timer stopped, no grant class, no watch; the last fault cause stays (R81, R82). -/
def groupOff (x : Group) : Group :=
  { x with state := .off, timer := .stopped, grantClass := none, watch := false, faultGuard := 0 }

/-- A group enters OFF (R81, R83, R92, R93). -/
def enterOff (g : GroupId) (s : State) : State := s.changeGroup g (groupOff (s.group g))

/-- A group enters FAULT and a FAULT record is written (R82). -/
def enterFault (g : GroupId) (c : FaultCause) (s : State) : State :=
  (s.changeGroup g { groupOff (s.group g) with state := .fault, lastFault := some c }).recordPlain .fault g .supervision none (some c)

/-- The linger with which a group stands UP now: suspended for a drive-forced group in DRIVE and under FALLBACK-AWAKE in UNCONFIGURED,
else running from Tmin (R80). -/
def upTimer (g : GroupId) (s : State) : SeqTimer :=
  match s.mode.mode with
  | .drive => if (s.params g).driveForced then .stopped else .linger (s.params g).tmin
  | .unconfigured => if s.fallbackAwake then .stopped else .linger (s.params g).tmin
  | .parked => .linger (s.params g).tmin

/-- A group enters UP (R80). -/
def enterUp (g : GroupId) (s : State) : State :=
  s.changeGroup g { s.group g with state := .up, timer := upTimer g s }

/-- The power-good watch that an entry into RELEASING sets (R79). -/
def watchAtRelease (g : GroupId) (s : State) : Bool :=
  match (s.params g).pgMode with
  | .wait => true
  | .delay _ => false

/-- A group enters RELEASING. With its watch on and PGk negated it takes the loss at once; with a settle time of 0 it passes on to UP
(R79, log 12). -/
def enterReleasing (g : GroupId) (s : State) : State :=
  let t := s.changeGroup g
    { s.group g with state := .releasing, timer := .settle (s.params g).settle, watch := watchAtRelease g s }
  if watchAtRelease g s && !s.pg.getLsbD g.val then enterFault g .pgLost t
  else if (s.params g).settle = 0 then enterUp g t
  else t

/-- The power-good timer that an entry into POWERING starts (R78). -/
def poweringTimer (x : GroupParams) : SeqTimer :=
  match x.pgMode with
  | .wait => .powerGoodWait x.pgTimeout
  | .delay ms => .powerGoodDelay ms

/-- A group enters POWERING with a grant class. In WAIT mode with PGk already asserted it passes through at once (R78, log 12). -/
def enterPowering (g : GroupId) (c : WakeClass) (s : State) : State :=
  let t := s.changeGroup g
    { s.group g with state := .powering, timer := poweringTimer (s.params g), grantClass := some c, watch := false, faultGuard := 1 }
  match (s.params g).pgMode with
  | .wait => if s.pg.getLsbD g.val then enterReleasing g t else t
  | .delay _ => t

/-- A group enters DRAINING; a drain of 0 ms takes it on to OFF in the same event (R81). -/
def enterDraining (g : GroupId) (s : State) : State :=
  let t := s.changeGroup g { s.group g with state := .draining, timer := .drain (s.params g).drain }
  if (s.params g).drain = 0 then enterOff g t else t

/-! ### Exhaustion (R91, R92, R129) -/

/-- A group with grant class 1, 2 or 3. -/
def lowClass (x : Group) : Bool :=
  match x.grantClass with
  | some c => decide (c ≠ 0)
  | none => false

/-- Exhaustion forces one group (R92). -/
def forceGroup (s : State) (g : GroupId) : State :=
  if lowClass (s.group g) then
    match (s.group g).state with
    | .powering => (enterOff g s).recordPlain .forcedDrain g .supervision none none
    | .releasing | .up => (enterDraining g s).recordPlain .forcedDrain g .supervision none none
    | .draining | .off | .fault | .quarantined => s
  else s

/-- The exhaustion announcement, taken group by group in ascending order (R92). -/
def State.exhaust (s : State) : State := allGroups.foldl forceGroup s

/-! ### Charge account (R115 to R128) -/

/-- The level is recomputed, once the account has been loaded (R117, R125). -/
def relevel (a : ChargeAccount) : ChargeAccount :=
  if a.loaded then { a with level := levelOf a.bRem a.l2 a.l3 } else a

/-- The thresholds are computed from P_active and the effective fractions of a bank (R124). -/
def rethreshold (m : Memory) (a : ChargeAccount) : ChargeAccount :=
  { a with l1 := threshold a.pActive m.q1, l2 := threshold a.pActive m.q2, l3 := threshold a.pActive m.q3 }

/-- Park entry of the charge account, steps 1 to 7 of R115. -/
def parkAccount (m : Memory) (a : ChargeAccount) : ChargeAccount :=
  relevel (rethreshold m
    { a with loaded := true, pActive := m.parkBudget, bRem := m.parkBudget, spent := 0, cut := 0, shortfall := 0, carry := 0,
             drawn := tabGroups (fun _ => 0), inrush := 0, timer := some Config.intervalMs })

/-- E of R120: the base draw over the interval and each present group's rated draw over its drawing time. -/
def drawnCharge (m : Memory) (drawn : Vector Nat 8) (t : Nat) : Nat :=
  m.baseDraw * t + (allGroups.map (fun g => (m.groupRecord g).draw * drawn.get g)).sum

/-- Steps 1 to 8 of a settlement over an interval of `t` ms (R120). -/
def settleAccount (m : Memory) (t : Nat) (a : ChargeAccount) : ChargeAccount :=
  let total := drawnCharge m a.drawn t + a.carry
  let debit := total / 1000 + a.inrush
  let taken := min debit a.bRem
  relevel { a with
    carry := total % 1000, bRem := a.bRem - taken, spent := a.spent + taken,
    shortfall := satAdd Config.wordMax a.shortfall (debit - taken), drawn := tabGroups (fun _ => 0), inrush := 0 }

/-- A change of the account that brings B_rem from above 0 to 0 in PARKED is announced as exhaustion (R120 step 9, R128 step 6). -/
def State.announce (s : State) (a : ChargeAccount) : State :=
  let t := { s with charge := a }
  if a.bRem = 0 ∧ s.charge.bRem ≠ 0 then t.exhaust else t

/-- The settlement at the expiry of the accounting timer (R120). -/
def settleInterval (s : State) : State :=
  s.announce { settleAccount s.activeBank Config.intervalMs s.charge with timer := some Config.intervalMs }

/-- The final settlement at DRIVE entry from PARKED, over the partial interval, without announcement (R122). -/
def finalSettlement (s : State) : State :=
  match s.charge.timer with
  | some left => { s with charge := { settleAccount s.activeBank (Config.intervalMs - left) s.charge with timer := none } }
  | none => s

/-- What a battery report of V ampere-seconds does to the account (R128 steps 3 to 5). -/
def reportAccount (v : Nat) (a : ChargeAccount) : ChargeAccount :=
  if v * 1000 < a.bRem then relevel { a with cut := a.cut + (a.bRem - v * 1000), bRem := v * 1000 } else relevel a

/-- The charge account takes a battery report; `none` is the mark SHORT (R128). -/
def State.takeReport (s : State) (v : Option Nat) : State :=
  match s.mode.mode, v with
  | .parked, some n => if n = 0xFFFF then s else s.announce (reportAccount n s.charge)
  | _, _ => s

/-- The inrush charge of a grant from OFF in PARKED (R119). -/
def addInrush (n : Nat) (a : ChargeAccount) : ChargeAccount := { a with inrush := satAdd Config.inrushMax a.inrush n }

/-! ### Taking a wake request (R84 to R90, R132, R134) -/

/-- The grant class after a request that is taken without refusal: the lower of the two (R90). -/
def lowerClass (held : Option WakeClass) (c : WakeClass) : Option WakeClass :=
  match held with
  | some h => some (min h c)
  | none => some c

/-- A counted grant: the storm count rises by one, and the first opens the window (R132). -/
def countGrant (windowMs : Nat) (x : StormRecord) : StormRecord :=
  { x with count := x.count + 1, window := if x.count = 0 then some windowMs else x.window }

/-- A request meets the storm limit: the group enters QUARANTINED (R134). -/
def quarantineGroup (r : WakeRequest) (g : GroupId) (s : State) : State :=
  let minutes := s.activeBank.quarantineTime
  let timer := if minutes = 0 then none else some (minutes * 60000)
  ((s.setStorm g { s.stormOf g with window := none, quarantine := timer }).changeGroup g
    { groupOff (s.group g) with state := .quarantined }).recordRequest .quarantined g r

/-- A grant from OFF (R85, R119, R132). -/
def grantFromOff (r : WakeRequest) (g : GroupId) (s : State) : State :=
  let t := enterPowering g r.cls s
  let t := match s.mode.mode with
    | .parked =>
      { t.setStorm g (countGrant (s.activeBank.stormWindow * 1000) (t.stormOf g)) with
        charge := addInrush (s.params g).inrush t.charge }
    | .drive | .unconfigured => t
  t.recordRequest .granted g r

/-- The storm test of PARKED passes while the storm count is below N (R134). -/
def stormPasses (g : GroupId) (s : State) : Bool :=
  match s.mode.mode with
  | .parked => decide ((s.stormOf g).count < s.activeBank.stormLimit)
  | .drive | .unconfigured => true

/-- One group takes a wake request (R84); the answer says whether it was refused. -/
def takeWakeGroup (r : WakeRequest) (g : GroupId) (s : State) : State × Bool :=
  let x := s.group g
  if !(s.params g).present then (s, false)
  else match x.state with
    | .fault => (s.recordRequest .refusedFault g r, true)
    | .quarantined => (s.recordRequest .refusedQuarantine g r, true)
    | .off =>
      if !stormPasses g s then (quarantineGroup r g s, true)
      else if s.grants r.cls (costFromOff (s.params g)) then (grantFromOff r g s, false)
      else (s.recordRequest .refusedBudget g r, true)
    | .powering | .releasing => (s.setGroup g { x with grantClass := lowerClass x.grantClass r.cls }, false)
    | .up =>
      if s.grants r.cls (costFromUp (s.params g)) then
        let timer := match x.timer with
          | .linger _ => .linger (s.params g).tmin
          | t => t
        (s.setGroup g { x with grantClass := lowerClass x.grantClass r.cls, timer := timer }, false)
      else (s, true)
    | .draining =>
      if s.grants r.cls (costFromUp (s.params g)) then
        (enterReleasing g (s.setGroup g { x with grantClass := lowerClass x.grantClass r.cls }), false)
      else (s.recordRequest .refusedBudget g r, true)

/-- A wake request is taken for each named group in ascending order; the answer carries the set of groups refused (R60, R84). -/
def takeWakeFrom (r : WakeRequest) (acc : State × GroupSet) (g : GroupId) : State × GroupSet :=
  if r.set.getLsbD g.val then
    let (t, refused) := takeWakeGroup r g acc.1
    (t, if refused then acc.2 ||| (1#8 <<< g.val) else acc.2)
  else acc

/-- A wake request is taken whole: the state it leaves and the set of groups refused (R60, R84). -/
def takeWake (r : WakeRequest) (s : State) : State × GroupSet := allGroups.foldl (takeWakeFrom r) (s, 0)

/-- The wake request of a mode entry for one group (R93), with class 0 and cause MODE. -/
def modeRequest : WakeRequest :=
  { set := BitVec.allOnes 8, cls := 0, cause := .mode, source := none, rule := none, ident := none }

/-- The wake request of FALLBACK-QUIET for all groups (R98, R102). -/
def quietRequest (cause : Cause) (source : Source) (ident : Option Ident) : WakeRequest :=
  { set := BitVec.allOnes 8, cls := 0, cause := cause, source := some source, rule := none, ident := ident }

/-- Under FALLBACK-QUIET in UNCONFIGURED a frame or an edge wakes all groups (R98, R102). -/
def State.quietWake (s : State) (cause : Cause) (source : Source) (ident : Option Ident) : State :=
  if s.fallbackAwake then s else (takeWake (quietRequest cause source ident) s).1

/-! ### Mode entries (R93, R94, R104, R105) -/

/-- A group is taken up as a drive-forced group: woken from OFF or DRAINING, its linger suspended in UP, its grant class 0 on the way up
(R93 step 3, R36). -/
def driveForceGroup (g : GroupId) (s : State) : State :=
  match (s.group g).state with
  | .off | .draining => (takeWakeGroup modeRequest g s).1
  | .up => s.setGroup g { s.group g with timer := .stopped, grantClass := some 0 }
  | .powering | .releasing => s.setGroup g { s.group g with grantClass := some 0 }
  | .fault | .quarantined => s

/-- DRIVE entry for one group (R93). -/
def driveEntryGroup (s : State) (g : GroupId) : State :=
  let t := match (s.group g).state with
    | .fault | .quarantined => enterOff g s
    | .off | .powering | .releasing | .up | .draining => s
  if (t.params g).driveForced then driveForceGroup g t else t

/-- A DRIVE entry (R104): the mode, the final settlement when PARKED is left, the storm records, then the groups. -/
def driveEntry (s : State) : State :=
  let t : State := { s with mode := { s.mode with mode := .drive, modeTime := 0, secondLeft := 1000, parkSettle := none } }
  let t := t.sync
  let t := match s.mode.mode with
    | .parked => finalSettlement t
    | .drive | .unconfigured => t
  let t := { t with storm := tabGroups (fun _ => StormRecord.atPowerOn) }
  allGroups.foldl driveEntryGroup t

/-- A suspended linger is started with Tmin (R36, R94, R99). -/
def startLinger (g : GroupId) (tmin : Nat) (s : State) : State :=
  match (s.group g).state, (s.group g).timer with
  | .up, .stopped => s.setGroup g { s.group g with timer := .linger tmin }
  | _, _ => s

/-- PARKED entry for one group (R94). -/
def parkedEntryGroup (s : State) (g : GroupId) : State :=
  if (s.params g).driveForced then startLinger g (s.params g).tmin s else s

/-- A PARKED entry (R105): the mode and the park-settle timer, the charge account with exhaustion when P_active is 0 (R116), the storm
records, then the groups. -/
def parkedEntry (s : State) : State :=
  let t : State :=
    { s with mode := { s.mode with mode := .parked, modeTime := 0, secondLeft := 1000,
                                   parkSettle := some (s.activeBank.parkSettle * 1000) } }
  let t := t.sync
  let t : State := { t with charge := parkAccount t.activeBank t.charge }
  let t : State := { t with storm := tabGroups (fun g => { t.stormOf g with count := 0, window := none }) }
  let t := if t.charge.pActive = 0 then t.exhaust else t
  allGroups.foldl parkedEntryGroup t

/-! ### Time (conventions, "Timers"; log 1, log 2) -/

/-- A sequence timer after `n` ms. -/
def SeqTimer.pass (n : Nat) : SeqTimer → SeqTimer
  | .stopped => .stopped
  | .powerGoodWait ms => .powerGoodWait (ms - n)
  | .powerGoodDelay ms => .powerGoodDelay (ms - n)
  | .settle ms => .settle (ms - n)
  | .linger ms => .linger (ms - n)
  | .drain ms => .drain (ms - n)

/-- A timer with its ms left after `n` ms. -/
def passTimer (n : Nat) (t : Option Nat) : Option Nat := t.map (fun ms => ms - n)

/-- A line after `n` ms. -/
def linePass (n : Nat) (x : Line) : Line := { x with debounce := passTimer n x.debounce }

/-- A group channel after `n` ms. -/
def groupPass (n : Nat) (x : Group) : Group := { x with timer := x.timer.pass n, faultGuard := x.faultGuard - n }

/-- A storm record after `n` ms. -/
def stormPass (n : Nat) (x : StormRecord) : StormRecord :=
  { x with window := passTimer n x.window, quarantine := passTimer n x.quarantine }

/-- The part of `n` ms that falls into the running accounting interval (R118). -/
def State.accounted (s : State) (n : Nat) : Nat :=
  match s.mode.mode, s.charge.timer with
  | .parked, some left => min n left
  | _, _ => 0

/-- `n` ms pass: every running timer has that much less time left, and in PARKED each group whose supply is on draws for that time
(R118). Nothing else changes; an expiry is a command of its own. -/
def State.elapse (n : Nat) (s : State) : State :=
  { s with
    lines := { ign := linePass n s.lines.ign, svc := linePass n s.lines.svc, gpi := tabGroups (fun k => linePass n (s.lines.gpi.get k)) }
    hold := s.hold.map (fun e => { e with remaining := e.remaining - n })
    groups := tabGroups (fun g => groupPass n (s.group g))
    mode := { s.mode with secondLeft := s.mode.secondLeft - n, parkSettle := passTimer n s.mode.parkSettle }
    charge := { s.charge with
      drawn := tabGroups (fun g =>
        if (s.group g).state.supplyOn then satAdd Config.intervalMs (s.charge.drawn.get g) (s.accounted n) else s.charge.drawn.get g)
      timer := passTimer n s.charge.timer }
    storm := tabGroups (fun g => stormPass n (s.stormOf g))
    agent := { s.agent with linger := passTimer n s.agent.linger, opLeft := passTimer n s.agent.opLeft } }

end Sys2Proof.Machine
end

