-- ==== Sys2Proof/Machine/RuleStore.lean ====
section
/-! DEFINITION. Verification of the standby bank (2.6), the swap (2.8) and the copy after it (2.9). -/

namespace Sys2Proof.Machine

/-! ### Verification (R29) -/

/-- The set of groups whose present flag is set in a bank. -/
def Memory.presentSet (m : Memory) : GroupSet :=
  allGroups.foldl (fun acc g => if m.present g then acc ||| (1#8 <<< g.val) else acc) 0

/-- A wake set names only groups that are present in the bank. -/
def Memory.namesPresent (m : Memory) (wake : GroupSet) : Bool := wake &&& ~~~m.presentSet == 0

/-- Step 1 of R29: the bank mark. -/
def verifyMark (m : Memory) : Option VerifyFault :=
  if m.u16 0 = bankMark then none else some { kind := .badMark, offset := 0 }

/-- Step 2 of R29 for one group record: the bound port of a present group is 0 to 4. -/
def verifyGroup (m : Memory) (g : GroupId) : Option VerifyFault :=
  if m.present g && decide (4 < (m.read (groupOffset g + 1)).toNat) then some { kind := .badGroup, offset := groupOffset g } else none

/-- Step 3 of R29 for one line record: its wake set names only present groups. -/
def verifyLine (m : Memory) (k : GpiId) : Option VerifyFault :=
  if m.namesPresent (m.lineRecord k).wake then none else some { kind := .absentGroup, offset := lineOffset k }

/-- Steps 4.4 to 4.7 of R29 for a SHORT or LONG entry that fits: its index, window, report and wake set. -/
def verifyEntry (m : Memory) (pos index : Nat) (e : RuleEntry) : Option VerifyFault :=
  if index = Config.ruleMax then some { kind := .tooMany, offset := pos }
  else if e.long && (decide (6 < e.window) || decide (8 < e.minLen)) then some { kind := .badWindow, offset := pos }
  else if e.action == .report && (!e.long || e.wake != 0) then some { kind := .badReport, offset := pos }
  else if !m.namesPresent e.wake then some { kind := .absentGroup, offset := pos }
  else none

/-- Step 4 of R29 from one entry position on; `fuel` bounds the entries still to read. -/
def verifyList (m : Memory) : (fuel pos index : Nat) → Option VerifyFault
  | 0, _, _ => some { kind := .noEnd, offset := Config.bankBytes - 1 }
  | fuel + 1, pos, index =>
    match m.entryAt pos with
    | .unknown => some { kind := .badKind, offset := pos }
    | .last => if Config.bankBytes < pos + 8 then some { kind := .noEnd, offset := pos } else none
    | .rule e =>
      if Config.bankBytes < pos + e.bytes then some { kind := .noEnd, offset := pos }
      else match verifyEntry m pos index e with
        | some f => some f
        | none =>
          if Config.bankBytes ≤ pos + e.bytes then some { kind := .noEnd, offset := Config.bankBytes - 1 }
          else verifyList m fuel (pos + e.bytes) (index + 1)

/-- The entries that a rule list of 1792 bytes can hold at most, and one more. -/
def listFuel : Nat := 225

/-- Verification of a bank: the first fault in bank order, or `none` (R29). -/
def verifyBank (m : Memory) : Option VerifyFault :=
  (verifyMark m).or ((allGroups.findSome? (verifyGroup m)).or
    ((allGroups.findSome? (verifyLine m)).or (verifyList m listFuel Config.ruleListStart 0)))

/-- A verification completes: the standby state and the verify fault record take its result and the agent is IDLE (R30). -/
def completeVerification (s : State) : State :=
  let result := verifyBank s.store.standbyBank
  { s with
    store := { s.store with standby := (match result with | none => .verified | some _ => .rejected), verifyFault := result }
    agent := { s.agent with state := .idle, opLeft := none } }

/-- A verification starts (R28). -/
def startVerification (s : State) : State :=
  { s with
    store := { s.store with standby := .dirty, verifyFault := none }
    agent := { s.agent with state := .verifying, opLeft := some Config.verifyMs } }

/-- A verification is stopped (R31). -/
def stopVerification (s : State) : State :=
  { s with store := { s.store with standby := .dirty }, agent := { s.agent with state := .idle, opLeft := none } }

/-- The copy completes: the standby bank takes the active bank's bytes and is VERIFIED, and the agent is IDLE (R37). -/
def completeCopy (s : State) : State :=
  { s with
    store := { s.store.setStandbyBank s.activeBank with standby := .verified }
    agent := { s.agent with state := .idle, opLeft := none } }

/-! ### The swap (R33 to R36, R99, R107) -/

/-- The banks exchange roles, the standby state is DIRTY and the agent COPYING; the thresholds and the level are recomputed from the
unchanged P_active; storm counts above the new limit are set to it (R33, R34, R35). -/
def exchangeBanks (s : State) : State :=
  let store := { s.store.exchange with standby := .dirty }
  let bank := store.active
  { s with
    store := store
    agent := { s.agent with state := .copying, opLeft := some Config.copyMs }
    charge := relevel (rethreshold bank s.charge)
    storm := tabGroups (fun g => { s.stormOf g with count := min (s.stormOf g).count bank.stormLimit }) }

/-- A group that is not present in the new active bank is taken to OFF and its storm record is cleared; no record is written
(R36, R99 step 1). -/
def clearAbsentGroup (s : State) (g : GroupId) : State :=
  if s.activeBank.present g then s
  else (enterOff g s).setStorm g StormRecord.atPowerOn

/-- In DRIVE a group whose drive-forced flag the swap changes (R36). -/
def changeForced (old : Memory) (s : State) (g : GroupId) : State :=
  match (old.groupRecord g).driveForced, (s.activeBank.groupRecord g).driveForced with
  | false, true => driveForceGroup g s
  | true, false => startLinger g (s.activeBank.groupRecord g).tmin s
  | true, true => s
  | false, false => s

/-- A swap taken while configured (R34, R36). -/
def laterSwap (old : Memory) (s : State) : State :=
  let t := allGroups.foldl clearAbsentGroup s.sync
  match s.mode.mode with
  | .drive => allGroups.foldl (changeForced old) t
  | .parked | .unconfigured => t

/-- R99 step 2: a present group that stands UP with its linger suspended under FALLBACK-AWAKE starts it. -/
def startFallbackLinger (s : State) (g : GroupId) : State :=
  if s.fallbackAwake && s.activeBank.present g then startLinger g (s.activeBank.groupRecord g).tmin s else s

/-- The first swap after power-on: the groups take the new bank into use, and the mode entry follows the debounced IGN level
(R99, R107). -/
def firstSwap (s : State) : State :=
  let t : State := { s with mode := { s.mode with configured := true } }
  let t := allGroups.foldl startFallbackLinger (allGroups.foldl clearAbsentGroup t)
  if t.lines.ign.level then driveEntry t else parkedEntry t

/-- The swap (R33). -/
def takeSwap (s : State) : State :=
  let t := exchangeBanks s
  if s.mode.configured then laterSwap s.activeBank t else firstSwap t

end Sys2Proof.Machine
end

