-- ==== Sys2Proof/Machine/Classify.lean ====
section
/-! DEFINITION. The classifier: the search of the rule list, and the application of its result (chapter 3, R15, R16). -/

namespace Sys2Proof.Machine

/-! ### Matching (R41, R42) -/

/-- The 16-bit value of two data bytes, the first most significant. -/
def dataWord (data : List Byte) (o : Nat) : BitVec 16 := data.getD o 0 ++ data.getD (o + 1) 0

/-- The identifier test: equality in every bit position that the mask sets and the format counts (R41, R42). -/
def identMatches (e : RuleEntry) (i : Ident) : Bool :=
  e.ext == identIsExt i && ((identBits i ^^^ e.id) &&& e.idMask &&& formatMask e.ext) == 0

/-- The window test (R42). -/
def windowMatches (e : RuleEntry) (data : List Byte) : Bool :=
  e.winMask == 0 ||
    (decide (e.window + 2 ≤ data.length) && ((dataWord data e.window ^^^ e.winVal) &&& e.winMask) == 0)

/-- An entry matches a frame from a source port (R41). The reference set of its condition is its own forward set less the source port
(R45). -/
def entryMatches (s : State) (src : PortId) (f : Frame) (e : RuleEntry) : Bool :=
  e.source.getLsbD src.val && s.condition (e.forward &&& ~~~(1#5 <<< src.val)) e.cond && identMatches e f.ident &&
    decide (e.minLen ≤ f.data.length) && windowMatches e f.data

/-! ### The working record (R46, R47, R48) -/

/-- The working record; `rule` is `none` while nothing has matched. -/
structure WorkingRecord where
  rule    : Option Nat
  blocked : Bool
  forward : PortSet
  wake    : GroupSet
  hold    : Bool
  cls     : Option WakeClass
  reports : List Nat
deriving DecidableEq, Repr

/-- The working record at the start of a search (R47). -/
def WorkingRecord.empty : WorkingRecord :=
  { rule := none, blocked := false, forward := 0, wake := 0, hold := false, cls := none, reports := [] }

/-- The contribution of a matching entry is added (R46, R47). -/
def contribute (index : Nat) (e : RuleEntry) (w : WorkingRecord) : WorkingRecord :=
  { rule := some (w.rule.getD index)
    blocked := w.blocked || e.action == .block
    forward := w.forward ||| e.forward
    wake := w.wake ||| e.wake
    hold := w.hold || e.hold
    cls := lowerClass w.cls e.cls
    reports := if e.action == .report then w.reports ++ [e.window] else w.reports }

/-- The search from one entry position on (R40); `fuel` bounds the entries still to examine. A position that names no entry ends the
search, which a verified bank does not reach (log 18). -/
def search (s : State) (src : PortId) (f : Frame) : (fuel pos index : Nat) → WorkingRecord → WorkingRecord
  | 0, _, _, w => w
  | fuel + 1, pos, index, w =>
    match s.activeBank.entryAt pos with
    | .unknown | .last => w
    | .rule e =>
      if entryMatches s src f e then
        if e.cont then search s src f fuel (pos + e.bytes) (index + 1) (contribute index e w) else contribute index e w
      else search s src f fuel (pos + e.bytes) (index + 1) w

/-- The search of the active rule list for a frame (R40). -/
def searchRules (s : State) (src : PortId) (f : Frame) : WorkingRecord :=
  search s src f listFuel Config.ruleListStart 0 WorkingRecord.empty

/-! ### Forwarding (R15, R16, R54) -/

/-- The ports of a set less the source port, in ascending order. -/
def destinations (set : PortSet) (src : PortId) : List PortId := allPorts.filter (fun p => set.getLsbD p.val && p != src)

/-- One destination port of a matched frame: the first case of R54 that applies. -/
def forwardTo (f : Frame) (hold : Bool) (rule : Option Nat) (s : State) (p : PortId) : State :=
  if s.awake p && !s.hasHeld p then s.offer p f
  else if s.hasHeld p then s.holdFrame p f rule
  else if hold && s.groupComing p then s.holdFrame p f rule
  else s.count p .dropAsleep

/-- One destination port of the default route (R15). -/
def routeTo (f : Frame) (s : State) (p : PortId) : State :=
  if s.awake p then (if s.hasHeld p then s.holdFrame p f none else s.offer p f) else s.count p .dropAsleep

/-- One destination port in UNCONFIGURED (R16). -/
def fallbackTo (f : Frame) (s : State) (p : PortId) : State := if s.awake p then s.offer p f else s

/-! ### Applying the result (R49 to R53) -/

/-- The value of a battery report at an offset; `none` is the mark SHORT (R52). -/
def reportValue (data : List Byte) (o : Nat) : Option Nat :=
  if o + 2 ≤ data.length then some (dataWord data o).toNat else none

/-- The wake request of a matched frame (R53). -/
def frameRequest (src : PortId) (f : Frame) (w : WorkingRecord) : WakeRequest :=
  { set := w.wake, cls := w.cls.getD 3, cause := .frame, source := some (.port src), rule := w.rule, ident := some f.ident }

/-- A matched frame: its reports, its wake request, its forwarding, in this order (R51). -/
def applyMatched (src : PortId) (f : Frame) (w : WorkingRecord) (s : State) : State :=
  let t := w.reports.foldl (fun t o => t.takeReport (reportValue f.data o)) s
  let t := (takeWake (frameRequest src f w) t).1
  (destinations w.forward src).foldl (forwardTo f w.hold w.rule) t

/-- The classification of one frame (R39, R49 to R51). -/
def classifyFrame (src : PortId) (f : Frame) (s : State) : State :=
  match s.mode.mode with
  | .unconfigured =>
    let t := s.quietWake .frame (.port src) (some f.ident)
    (destinations (BitVec.allOnes 5) src).foldl (fallbackTo f) t
  | .drive | .parked =>
    let w := searchRules s src f
    if w.blocked then s.count src .rxBlocked
    else match w.rule with
      | none => (destinations s.activeBank.defaultRoute src).foldl (routeTo f) s
      | some _ => applyMatched src f w s

end Sys2Proof.Machine
end

