-- ==== Sys2Proof/Machine/Agent.lean ====
section
/-! DEFINITION. The management agent: how it takes a request and answers, and what each command reports or does (chapter 9, 11.5, 11.6). -/

namespace Sys2Proof.Machine

/-! ### Codes (Tables 11-1 and 11-9) -/

/-- Table 9-2. -/
inductive Status where
  | ok
  | noData
  | busy
  | mode
  | bank
  | notVerified
  | range
  | unknown
  | length
deriving DecidableEq, Repr

/-- Table 11-9. -/
def statusCode : Status → Byte
  | .ok => 0
  | .noData => 1
  | .busy => 2
  | .mode => 3
  | .bank => 4
  | .notVerified => 5
  | .range => 6
  | .unknown => 7
  | .length => 8

def modeCode : Mode → Nat
  | .unconfigured => 0
  | .drive => 1
  | .parked => 2

def agentCode : AgentState → Nat
  | .idle => 0
  | .verifying => 1
  | .copying => 2

def standbyCode : StandbyState → Nat
  | .dirty => 0
  | .verified => 1
  | .rejected => 2

def levelCode : BudgetLevel → Nat
  | .opened => 0
  | .restricted => 1
  | .essential => 2
  | .exhausted => 3

def verifyKindCode : VerifyKind → Nat
  | .badMark => 1
  | .badGroup => 2
  | .badKind => 3
  | .noEnd => 4
  | .tooMany => 5
  | .absentGroup => 6
  | .badWindow => 7
  | .badReport => 8

def groupStateCode : GroupState → Nat
  | .off => 0
  | .powering => 1
  | .releasing => 2
  | .up => 3
  | .draining => 4
  | .fault => 5
  | .quarantined => 6

def faultCode : FaultCause → Nat
  | .pgTimeout => 1
  | .pgLost => 2
  | .powerFault => 3

def outcomeCode : WakeOutcome → Nat
  | .granted => 0
  | .refusedBudget => 1
  | .refusedFault => 2
  | .refusedQuarantine => 3
  | .quarantined => 4
  | .quarantineEnd => 5
  | .fault => 6
  | .forcedDrain => 7

def causeCode : Cause → Nat
  | .frame => 0
  | .line => 1
  | .mgmt => 2
  | .mode => 3
  | .supervision => 4

def sourceCode : Source → Nat
  | .port p => p.val
  | .gpi k => 0x10 + k.val
  | .ign => 0x18

def roleCode : BankRole → Nat
  | .active => 0
  | .standby => 1

/-- The role that a code names, if any. -/
def roleOf (code : Nat) : Option BankRole :=
  match code with
  | 0 => some .active
  | 1 => some .standby
  | _ => none

/-- A one-byte field, or the absent value 0xFF (R165). -/
def optByte (n : Option Nat) : Byte := byteOf (n.getD 0xFF)

/-! ### The table pointer (R153) -/

/-- The byte offset of the pointer. -/
def TablePointer.offset (p : TablePointer) : Nat := p.page.val * 128 + p.column.val

/-- The pointer advances by `n` positions, wrapping after page 15, column 127. -/
def TablePointer.advance (n : Nat) (p : TablePointer) : TablePointer :=
  let o := (p.offset + n) % 2048
  { p with page := Fin.ofNat 16 (o / 128), column := Fin.ofNat 128 (o % 128) }

/-- The pointer as it is reported. -/
def pointerBytes (p : TablePointer) : List Byte := [byteOf (roleCode p.role), byteOf p.page.val, byteOf p.column.val]

/-! ### Taking a request (R146 to R150) -/

/-- Which requests the gating check lets pass (R150). -/
inductive Gate where
  | normal
  | extended
  | serviceOnly
deriving DecidableEq, Repr

/-- The gating check (R150). -/
def gateOpen (s : State) : Gate → Bool
  | .normal => true
  | .extended => s.mode.mode == .drive || s.mode.mode == .unconfigured || s.lines.svc.level
  | .serviceOnly => s.lines.svc.level

/-- What the action of a command answers. -/
structure Answer where
  state   : State
  status  : Status
  results : List Byte

/-- A refusal that changes nothing (R146). -/
def refuse (st : Status) (s : State) : Answer := { state := s, status := st, results := [] }

/-- A request answered OK. -/
def answerOk (s : State) (results : List Byte) : Answer := { state := s, status := .ok, results := results }

/-- The agent begins to take a request: it waits no longer, and the management linger timer is started, which makes port 0 awake (R146,
R148). -/
def beginRequest (s : State) : State :=
  ({ s with agent := { s.agent with request := none, linger := some s.activeBank.mgmtLinger } }).sync

/-- The response frame of a command code, a status and results, padded with zeros to eight bytes (R147). -/
def responseFrame (s : State) (code : Byte) (st : Status) (results : List Byte) : Frame :=
  { ident := .std s.responseId, data := (code :: statusCode st :: (results ++ List.replicate 6 0)).take 8 }

/-- The response is offered to the transmit queue of port 0 (R147). -/
def respond (code : Byte) (a : Answer) : State := a.state.offer 0 (responseFrame a.state code a.status a.results)

/-- An argument byte of a request; `args` begins at data byte 1. -/
def argAt (args : List Byte) (i : Nat) : Nat := (args.getD i 0).toNat

/-- The status of a request by the checks of R149 in their order, and the action when they all pass. -/
def answerRequest (minLen : Nat) (gate : Gate) (inRange : List Byte → Bool) (act : List Byte → State → Answer) (args : List Byte)
    (s : State) : Answer :=
  if args.length + 1 < minLen then refuse .length s
  else if !gateOpen s gate then refuse .mode s
  else if !inRange args then refuse .range s
  else act args s

/-- The agent takes a request of a command with its arguments (R146 to R149). A frame has at most seven bytes after the command code. -/
def serve (code : Byte) (minLen : Nat) (gate : Gate) (inRange : List Byte → Bool) (act : List Byte → State → Answer)
    (args : List Byte) (s : State) : State :=
  let args := args.take 7
  respond code (answerRequest minLen gate inRange act args (beginRequest s))

/-- A command whose arguments have no range failure. -/
def anyRange : List Byte → Bool := fun _ => true

/-! ### Reading the part's state (R159 to R162, Table 11-10) -/

/-- The oldest hold entry's destination port and rule index, as reported (R74, R159). -/
def oldestHeld (s : State) : List Byte :=
  [optByte (s.hold.head?.map (fun e => e.dest.val)), optByte (s.hold.head?.bind (fun e => e.rule))]

/-- STATUS part 0. -/
def statusPart0 (s : State) : List Byte :=
  [byteOf (modeCode s.mode.mode * 64 + agentCode s.agent.state * 16 + standbyCode s.store.standby * 4 + levelCode s.levelRead),
   byteOf ((s.store.verifyFault.map (fun f => verifyKindCode f.kind)).getD 0)]
  ++ bytes16 ((s.store.verifyFault.map (fun f => f.offset)).getD 0)

/-- STATUS part 1. -/
def statusPart1 (s : State) : List Byte :=
  bytes16 s.store.lockPages.toNat
  ++ [byteOf (s.mode.ma1.toNat * 16 + s.mode.ma0.toNat * 8 + s.mode.fb.toNat * 4 + s.lines.ign.level.toNat * 2 + s.lines.svc.level.toNat),
      byteOf s.hold.length]
  ++ oldestHeld s

/-- STATUS (R159). -/
def actStatus (args : List Byte) (s : State) : Answer :=
  answerOk s (if argAt args 0 = 0 then statusPart0 s else statusPart1 s)

/-- READ-BUDGET (R130, R160). -/
def actReadBudget (args : List Byte) (s : State) : Answer :=
  answerOk s (match argAt args 0 with
    | 0 => bytes32 s.charge.bRem ++ [byteOf (levelCode s.levelRead), byteOf (modeCode s.mode.mode)]
    | 1 => bytes32 s.charge.pActive
    | 2 => bytes32 s.charge.spent
    | 3 => bytes32 s.charge.cut
    | _ => bytes32 s.charge.shortfall)

/-- The linger as reported: its ms, 0xFFFE suspended, 0xFFFF absent (Table 11-10). -/
def lingerValue (x : Group) : Nat :=
  match lingerView x with
  | .running ms => ms
  | .suspended => 0xFFFE
  | .notApplicable => 0xFFFF

/-- READ-GROUP (R160). -/
def actReadGroup (args : List Byte) (s : State) : Answer :=
  let g : GroupId := Fin.ofNat 8 (argAt args 0)
  let x := s.group g
  answerOk s
    ([byteOf (groupStateCode x.state), byteOf ((x.lastFault.map faultCode).getD 0), optByte (x.grantClass.map (fun c => c.val)),
      byteOf (s.stormOf g).count] ++ bytes16 (lingerValue x))

/-- A part of a history record (R162). -/
def recordPart (h : WakeHistory) (w : WakeRecord) (part : Nat) : List Byte :=
  match part with
  | 0 => [byteOf (outcomeCode w.outcome), byteOf w.group.val, byteOf (modeCode w.mode), optByte (w.cls.map (fun c => c.val)),
          byteOf (causeCode w.cause), optByte (w.source.map sourceCode)]
  | 1 => [optByte w.rule, optByte (w.faultCause.map faultCode)]
          ++ (match w.ident with
              | some i => identBytes i
              | none => bytes32 0xFFFFFFFF)
  | 2 => bytes32 w.modeTime ++ [byteOf h.records.length]
  | _ => bytes32 w.bRem ++ bytes16 h.overwrites

/-- READ-HISTORY (R144, R162). -/
def actReadHistory (args : List Byte) (s : State) : Answer :=
  match s.history.records[argAt args 0]? with
  | some w => answerOk s (recordPart s.history w (argAt args 1))
  | none =>
    { state := s, status := .noData, results := byteOf s.history.records.length :: bytes16 s.history.overwrites }

/-- The two counters of a pair; pair 5 has one (R161). -/
def counterPair (x : Port) (pair : Nat) : Nat × Nat :=
  match pair with
  | 0 => (portCounter x .rxOk, portCounter x .rxErr)
  | 1 => (portCounter x .rxRemote, portCounter x .rxBlocked)
  | 2 => (portCounter x .txOk, portCounter x .txUndelivered)
  | 3 => (portCounter x .dropQfull, portCounter x .dropAsleep)
  | 4 => (portCounter x .holdOverflow, portCounter x .holdExpired)
  | _ => (portCounter x .holdDiscarded, 0)

/-- Set a counter to 0. -/
def clearCounter (c : Counter) (x : Port) : Port := { x with counters := x.counters.set c.index.val 0 c.index.isLt }

/-- Set the counters of a pair to 0 (R18). -/
def clearPair (pair : Nat) (x : Port) : Port :=
  match pair with
  | 0 => clearCounter .rxErr (clearCounter .rxOk x)
  | 1 => clearCounter .rxBlocked (clearCounter .rxRemote x)
  | 2 => clearCounter .txUndelivered (clearCounter .txOk x)
  | 3 => clearCounter .dropAsleep (clearCounter .dropQfull x)
  | 4 => clearCounter .holdExpired (clearCounter .holdOverflow x)
  | _ => clearCounter .holdDiscarded x

/-- READ-COUNTERS (R18, R161). -/
def actReadCounters (args : List Byte) (s : State) : Answer :=
  let p : PortId := Fin.ofNat 5 (argAt args 0)
  let pair := argAt args 1
  let (a, b) := counterPair (s.port p) pair
  let t := if argAt args 2 = 0 then s else s.setPort p (clearPair pair (s.port p))
  answerOk t ([byteOf p.val, byteOf pair] ++ bytes16 a ++ bytes16 b)

/-! ### The table pointer, the read latch and the standby bank (R153 to R155) -/

/-- SET-POINTER (R153). -/
def actSetPointer (args : List Byte) (s : State) : Answer :=
  let p : TablePointer :=
    { role := (roleOf (argAt args 0)).getD .active, page := Fin.ofNat 16 (argAt args 1), column := Fin.ofNat 128 (argAt args 2) }
  answerOk { s with agent := { s.agent with pointer := p, latch := none } } (pointerBytes p)

/-- The byte of a bank at a pointer advanced by `i`. -/
def byteAtPointer (m : Memory) (p : TablePointer) (i : Nat) : Byte := m.read (p.advance i).offset

/-- The six bytes of a bank at a pointer. -/
def fetchSix (m : Memory) (p : TablePointer) : Vector Byte 6 :=
  #v[byteAtPointer m p 0, byteAtPointer m p 1, byteAtPointer m p 2, byteAtPointer m p 3, byteAtPointer m p 4, byteAtPointer m p 5]

/-- READ-TABLE (R154). -/
def actReadTable (_args : List Byte) (s : State) : Answer :=
  let p := s.agent.pointer
  let t := { s with agent := { s.agent with latch := some (fetchSix (s.store.bankOf p.role) p), pointer := p.advance 6 } }
  match s.agent.latch with
  | some bytes => answerOk t bytes.toList
  | none => { state := t, status := .noData, results := [] }

/-- One byte of a WRITE-TABLE: stored unless its page is locked; the count is of the bytes stored (R32, R155). -/
def writeByte (lock : PageSet) (acc : Memory × TablePointer × Nat) (b : Byte) : Memory × TablePointer × Nat :=
  let (m, p, n) := acc
  if lock.getLsbD p.page.val then (m, p.advance 1, n) else (m.write p.offset b, p.advance 1, n + 1)

/-- The bank, the pointer and the number of bytes stored after a WRITE-TABLE (R155). -/
def writeBytes (lock : PageSet) (m : Memory) (p : TablePointer) (data : List Byte) : Memory × TablePointer × Nat :=
  data.foldl (writeByte lock) (m, p, 0)

/-- WRITE-TABLE (R32, R155). -/
def actWriteTable (args : List Byte) (s : State) : Answer :=
  if s.agent.state ≠ .idle then refuse .busy s
  else if s.agent.pointer.role = .active then refuse .bank s
  else
    let (m, p, n) := writeBytes s.store.lockPages s.store.standbyBank s.agent.pointer args
    let store := s.store.setStandbyBank m
    let store := if n = 0 then store else { store with standby := .dirty }
    answerOk { s with store := store, agent := { s.agent with pointer := p, latch := none } } (byteOf n :: pointerBytes p)

/-! ### Verification, swap and lock (R156 to R158) -/

/-- ABORT (R31, R156); its result reports the agent state found. -/
def actAbort (_args : List Byte) (s : State) : Answer :=
  let found := [byteOf (agentCode s.agent.state)]
  match s.agent.state with
  | .idle => answerOk s found
  | .verifying => answerOk (stopVerification s) found
  | .copying => { state := s, status := .busy, results := found }

/-- VERIFY (R156). -/
def actVerify (_args : List Byte) (s : State) : Answer :=
  if s.agent.state ≠ .idle then refuse .busy s else answerOk (startVerification s) []

/-- SWAP (R157). -/
def actSwap (_args : List Byte) (s : State) : Answer :=
  if s.agent.state ≠ .idle then refuse .busy s
  else if s.store.standby ≠ .verified then refuse .notVerified s
  else
    let t := takeSwap s
    answerOk t [byteOf (modeCode t.mode.mode)]

/-- LOCK (R38, R158). -/
def actLock (args : List Byte) (s : State) : Answer :=
  let set : PageSet := BitVec.ofNat 16 (argAt args 0 * 256 + argAt args 1)
  answerOk { s with store := { s.store with lockPages := set } } (bytes16 set.toNat)

/-! ### Acting on groups and the history (R137, R145, R163, R164) -/

/-- The wake request of a WAKE (R163). -/
def mgmtRequest (args : List Byte) : WakeRequest :=
  { set := args.getD 0 0, cls := classOf (argAt args 1), cause := .mgmt, source := some (.port 0), rule := none, ident := none }

/-- The groups of a set for which a property holds. -/
def groupSetWhere (f : GroupId → Bool) : GroupSet :=
  allGroups.foldl (fun acc g => if f g then acc ||| (1#8 <<< g.val) else acc) 0

/-- WAKE: the on set and the refused set (R163). -/
def actWake (args : List Byte) (s : State) : Answer :=
  let r := mgmtRequest args
  let (t, refused) := takeWake r s
  answerOk t [groupSetWhere (fun g => r.set.getLsbD g.val && t.supply g), refused]

/-- CLEAR-FAULT for one group (R83). -/
def clearFaultGroup (set : GroupSet) (s : State) (g : GroupId) : State :=
  if set.getLsbD g.val && (s.group g).state == .fault then enterOff g s else s

/-- CLEAR-FAULT: the set of groups cleared (R164). -/
def actClearFault (args : List Byte) (s : State) : Answer :=
  let set : GroupSet := args.getD 0 0
  answerOk (allGroups.foldl (clearFaultGroup set) s) [groupSetWhere (fun g => set.getLsbD g.val && (s.group g).state == .fault)]

/-- A quarantine ends with a QUARANTINE_END record: the group is OFF with count 0 and no storm timer (R136, R137). -/
def endQuarantine (cause : Cause) (source : Option Source) (g : GroupId) (s : State) : State :=
  (enterOff g (s.setStorm g StormRecord.atPowerOn)).recordPlain .quarantineEnd g cause source none

/-- RELEASE-QUARANTINE for one group (R137). -/
def releaseGroup (set : GroupSet) (s : State) (g : GroupId) : State :=
  if set.getLsbD g.val && (s.group g).state == .quarantined then endQuarantine .mgmt (some (.port 0)) g s else s

/-- RELEASE-QUARANTINE: the set of groups released (R137, R164). -/
def actReleaseQuarantine (args : List Byte) (s : State) : Answer :=
  let set : GroupSet := args.getD 0 0
  answerOk (allGroups.foldl (releaseGroup set) s)
    [groupSetWhere (fun g => set.getLsbD g.val && (s.group g).state == .quarantined)]

/-- CLEAR-HISTORY (R145). -/
def actClearHistory (_args : List Byte) (s : State) : Answer :=
  answerOk { s with history := { records := [], overwrites := 0 } } []

end Sys2Proof.Machine
end

