-- ==== Sys2Proof/Machine/Intake.lean ====
section
/-! DEFINITION. How a received request or frame is taken: for each command its code, minimum length, gating and argument ranges (Tables
9-1 and 11-8) over the one operation that takes a request; the request that waits; and that what waits at a port is taken before the
port's next frame completes its reception (R39, R146). -/

namespace Sys2Proof.Machine

/-! ### The requests, one by one -/

/-- STATUS (R159). -/
def serveStatus (args : List Byte) (s : State) : State := serve 0x01 2 .normal (fun a => argAt a 0 ≤ 1) actStatus args s

/-- READ-BUDGET (R130, R160). -/
def serveReadBudget (args : List Byte) (s : State) : State := serve 0x02 2 .normal (fun a => argAt a 0 ≤ 4) actReadBudget args s

/-- READ-GROUP (R160). -/
def serveReadGroup (args : List Byte) (s : State) : State := serve 0x03 2 .normal (fun a => argAt a 0 ≤ 7) actReadGroup args s

/-- READ-HISTORY (R144, R162). -/
def serveReadHistory (args : List Byte) (s : State) : State :=
  serve 0x04 3 .normal (fun a => decide (argAt a 0 ≤ 31) && decide (argAt a 1 ≤ 3)) actReadHistory args s

/-- READ-COUNTERS (R18, R161). -/
def serveReadCounters (args : List Byte) (s : State) : State :=
  serve 0x05 4 .normal (fun a => decide (argAt a 0 ≤ 4) && decide (argAt a 1 ≤ 5)) actReadCounters args s

/-- SET-POINTER (R153). -/
def serveSetPointer (args : List Byte) (s : State) : State :=
  serve 0x06 4 .normal (fun a => decide (argAt a 0 ≤ 1) && decide (argAt a 1 ≤ 15) && decide (argAt a 2 ≤ 127)) actSetPointer args s

/-- READ-TABLE (R154). -/
def serveReadTable (args : List Byte) (s : State) : State := serve 0x07 1 .normal anyRange actReadTable args s

/-- ABORT (R31, R156). -/
def serveAbort (args : List Byte) (s : State) : State := serve 0x08 1 .normal anyRange actAbort args s

/-- WRITE-TABLE (R32, R155). -/
def serveWriteTable (args : List Byte) (s : State) : State := serve 0x10 2 .extended anyRange actWriteTable args s

/-- VERIFY (R28, R156). -/
def serveVerify (args : List Byte) (s : State) : State := serve 0x11 1 .extended anyRange actVerify args s

/-- SWAP (R33, R157). -/
def serveSwap (args : List Byte) (s : State) : State := serve 0x12 1 .extended anyRange actSwap args s

/-- LOCK (R38, R158). -/
def serveLock (args : List Byte) (s : State) : State := serve 0x13 3 .serviceOnly anyRange actLock args s

/-- WAKE (R163). -/
def serveWake (args : List Byte) (s : State) : State := serve 0x14 3 .extended (fun a => argAt a 1 ≤ 3) actWake args s

/-- CLEAR-FAULT (R83, R164). -/
def serveClearFault (args : List Byte) (s : State) : State := serve 0x15 2 .extended anyRange actClearFault args s

/-- RELEASE-QUARANTINE (R137, R164). -/
def serveReleaseQuarantine (args : List Byte) (s : State) : State := serve 0x16 2 .extended anyRange actReleaseQuarantine args s

/-- CLEAR-HISTORY (R145, R164). -/
def serveClearHistory (args : List Byte) (s : State) : State := serve 0x17 1 .extended anyRange actClearHistory args s

/-- A request that names no command (R146, R149): no byte at all is answered LENGTH with code 0, another code UNKNOWN. -/
def serveUnknown (data : List Byte) (s : State) : State :=
  match data with
  | [] => respond 0 (refuse .length (beginRequest s))
  | c :: _ => respond c (refuse .unknown (beginRequest s))

/-! ### What waits at a port -/

/-- The agent takes a request frame with these data bytes (R146, Table 11-8). -/
def takeRequest (data : List Byte) (s : State) : State :=
  match decodeRequest data with
  | .status args => serveStatus args s
  | .readBudget args => serveReadBudget args s
  | .readGroup args => serveReadGroup args s
  | .readHistory args => serveReadHistory args s
  | .readCounters args => serveReadCounters args s
  | .setPointer args => serveSetPointer args s
  | .readTable args => serveReadTable args s
  | .abort args => serveAbort args s
  | .writeTable args => serveWriteTable args s
  | .verify args => serveVerify args s
  | .swap args => serveSwap args s
  | .lock args => serveLock args s
  | .wake args => serveWake args s
  | .clearFault args => serveClearFault args s
  | .releaseQuarantine args => serveReleaseQuarantine args s
  | .clearHistory args => serveClearHistory args s
  | .unknownCommand d => serveUnknown d s
  | .powerOn _ | .pinChange _ _ | .gpiEdge _ | .ignEdge | .svcEdge | .dataFrameReceived _ _ _ _ | .receptionError _
  | .remoteRequestFrame _ _ | .classification _ | .txAttemptStart _ | .attemptAcknowledged _
  | .attemptNotAcknowledged _ | .attemptError _ | .arbitrationLost _ | .busOffRecovery _ | .holdRelease _
  | .holdExpiry _ | .mgmtLingerExpiry | .powerGoodAsserted _ | .powerGoodDelayExpiry _ | .powerGoodTimeout _
  | .powerGoodLost _ | .powerFault _ | .settleExpiry _ | .lingerExpiry _ | .drainExpiry _ | .settlement
  | .windowExpiry _ | .quarantineExpiry _ | .parkSettleExpiry | .modeTimeTick | .verificationComplete
  | .copyComplete => s

/-- The classifier takes the frame that waits at a port (R39). -/
def State.takeFrame (p : PortId) (s : State) : State :=
  match (s.port p).waiting with
  | some f => classifyFrame p f (s.setPort p { s.port p with waiting := none })
  | none => s

/-- The agent takes the request that waits (R146). -/
def State.takeRequestWaiting (s : State) : State :=
  match s.agent.request with
  | some d => takeRequest d s
  | none => s

/-- What waits at a port is taken, as it is before the port's next frame has completed its reception (R39, R146). -/
def State.takeWaiting (p : PortId) (s : State) : State :=
  if p = 0 then (s.takeFrame p).takeRequestWaiting else s.takeFrame p

/-- The state in which the agent takes a request with these data bytes: the request waits, or its frame is received at this moment, and
what waits at port 0 is taken before (R39, R146, log 11). -/
def State.requestArrives (data : List Byte) (s : State) : State :=
  if s.agent.request = some data then s else s.takeWaiting 0

end Sys2Proof.Machine
end

