-- ==== Sys2Proof/Machine/LineCommands.lean ====
section
/-! DEFINITION. The meanings of POWER_ON, PIN_CHANGE and the debounced edges (R57 to R59, R98, R100 to R103, R110). -/

namespace Sys2Proof.Machine

/-- What every meaning answers. -/
abbrev Result := Host.Outcome State Fault Refusal

/-- The part after power-on under its fallback policy: FALLBACK-AWAKE wakes all eight groups (R97, R102). -/
def startUp (pins : PowerOnPins) : State :=
  if pins.fb then (takeWake modeRequest (State.atPowerOn pins)).1 else State.atPowerOn pins

/-- POWER_ON (R100): every item takes its power-on value. The queue of commands is not the part's and stays (log 20). -/
def execPowerOn (pins : PowerOnPins) (s : State) : Result := .next { startUp pins with pending := s.pending }

/-- The debounce time of a line (R57). -/
def debounceTime : InputLine → Nat
  | .ign | .svc => Config.debounceSenseMs
  | .gpi _ => Config.debounceGpiMs

/-- A change of level at a pin starts the debounce timer, or stops it when the pin is back at the debounced level (R57). -/
def linePinChange (full : Nat) (level : Bool) (x : Line) : Line :=
  if level = x.pin then x else { x with pin := level, debounce := if level = x.level then none else some full }

/-- PIN_CHANGE (R57). -/
def execPinChange (l : InputLine) (level : Bool) (s : State) : Result :=
  .next (s.setLine l (linePinChange (debounceTime l) level (s.line l)))

/-- A debounce timer expires: the previous level takes the debounced level, and that the level of the pin (R57). -/
def lineEdge (x : Line) : Line := { x with prev := x.level, level := x.pin, debounce := none }

/-- The expiry of a line's debounce timer, which runs with `left` ms to go (log 2). -/
def takeEdge (l : InputLine) (left : Nat) (s : State) : State :=
  let t := s.elapse left
  t.setLine l (lineEdge (t.line l))

/-- An edge kind names a debounced edge of a direction (R58). -/
def edgeMatches (kind : EdgeKind) (rising : Bool) : Bool :=
  match kind with
  | .none => false
  | .rise => rising
  | .fall => !rising
  | .both => true

/-- The wake request of a line record (R58). -/
def lineRequest (k : GpiId) (r : LineRecord) : WakeRequest :=
  { set := r.wake, cls := r.cls, cause := .line, source := some (.gpi k), rule := none, ident := none }

/-- A debounced edge of a general-purpose input is examined against its line record (R58), or in UNCONFIGURED by the fallback policy
(R98). The edge is rising when the new level is high. -/
def examineEdge (k : GpiId) (s : State) : State :=
  match s.mode.mode with
  | .unconfigured => s.quietWake .line (.gpi k) none
  | .drive | .parked =>
    let r := s.activeBank.lineRecord k
    if edgeMatches r.edge (s.line (.gpi k)).level && s.condition (s.lineReference r.wake) r.cond then
      (takeWake (lineRequest k r) s).1
    else s

/-- GPI_EDGE (R57, R58, R98). -/
def execGpiEdge (k : GpiId) (s : State) : Result :=
  match (s.line (.gpi k)).debounce with
  | some left => .next (examineEdge k (takeEdge (.gpi k) left s))
  | none => .next s

/-- The mode controller takes a debounced IGN edge (R103). -/
def ignEdgeTaken (s : State) : State :=
  match s.mode.mode, s.lines.ign.level with
  | .unconfigured, _ => s.quietWake .line .ign none
  | .drive, false => parkedEntry s
  | .parked, true => driveEntry s
  | .drive, true => s
  | .parked, false => s

/-- IGN_EDGE (R57, R103). -/
def execIgnEdge (s : State) : Result :=
  match s.lines.ign.debounce with
  | some left => .next (ignEdgeTaken (takeEdge .ign left s))
  | none => .next s

/-- SVC_EDGE (R57, R110): only the level changes. -/
def execSvcEdge (s : State) : Result :=
  match s.lines.svc.debounce with
  | some left => .next (takeEdge .svc left s)
  | none => .next s

end Sys2Proof.Machine
end

