-- ==== Sys2Proof/Machine/PortCommands.lean ====
section
/-! DEFINITION. The meanings of reception, classification and transmission at the ports (R1 to R4, R8 to R12, R39). -/

namespace Sys2Proof.Machine

/-- The frame that a port controller records: as many data bytes as the length code gives, at most eight (R1). -/
def recordedFrame (ident : Ident) (dlc : BitVec 4) (data : List Byte) : Frame :=
  { ident := ident, data := data.take (recordedLength dlc) }

/-- Port 0 diverts a standard frame at the management request identifier (R4). -/
def State.diverts (s : State) (p : PortId) (ident : Ident) : Bool := p == 0 && ident == .std s.requestId

/-- A data frame has completed its reception without error: it is counted in RX_OK, then left for the agent or the classifier to take
(R4). -/
def receiveData (p : PortId) (f : Frame) (flags : FlagErrors) (s : State) : State :=
  let x := portReceivedGood flags (countBy .rxOk 1 (s.port p))
  if s.diverts p f.ident then { s.setPort p x with agent := { s.agent with request := some f.data } }
  else s.setPort p { x with waiting := some f }

/-- DATA_FRAME_RECEIVED (R1, R4, R12); an earlier frame of the port that still waits is taken before (R39, R146). -/
def execDataFrameReceived (e : BusEnd) (ident : Ident) (dlc : BitVec 4) (data : List Byte) (s : State) : Result :=
  if portBusOff (s.port e.port) then .next s
  else .next (receiveData e.port (recordedFrame ident dlc data) e.flags (s.takeWaiting e.port))

/-- RECEPTION_ERROR (R2, R12). -/
def execReceptionError (e : BusEnd) (s : State) : Result :=
  let x := s.port e.port
  if portBusOff x then .next s else .next (s.setPort e.port (portReceivedBad e.flags (countBy .rxErr 1 x)))

/-- REMOTE_REQUEST_FRAME (R3, R12): counted and dropped, whatever its identifier; an earlier frame of the port that still waits is taken
before (R39, R146). -/
def execRemoteRequestFrame (e : BusEnd) (_ident : Ident) (s : State) : Result :=
  if portBusOff (s.port e.port) then .next s
  else
    let t := s.takeWaiting e.port
    .next (t.setPort e.port (portReceivedGood e.flags (countBy .rxRemote 1 (t.port e.port))))

/-- CLASSIFICATION (R39): the classifier takes the frame that waits at a port. -/
def execClassification (p : PortId) (s : State) : Result := .next (s.takeFrame p)

/-- A port may start an attempt: ACTIVE, not bus-off, a frame in its queue, no attempt on the bus (R7, R10, R12). -/
def mayStart (x : Port) : Bool :=
  x.state == .active && !portBusOff x && !x.queue.isEmpty && x.attempt == .idle

/-- TX_ATTEMPT_START (R10). -/
def execTxAttemptStart (p : PortId) (s : State) : Result :=
  let x := s.port p
  if mayStart x then .next (s.setPort p { x with attempt := .head }) else .next s

/-- An attempt of a port is acknowledged (R8, R10). -/
def attemptDelivered (x : Port) : Port :=
  match x.attempt with
  | .head => headDelivered x
  | .completing _ => { countBy .txOk 1 x with attempt := .idle }
  | .idle => x

/-- An attempt of a port fails (R8, R10). -/
def attemptFailed (x : Port) : Port :=
  match x.attempt with
  | .head => headFailed x
  | .completing _ => completingLost x
  | .idle => x

/-- ATTEMPT_ACKNOWLEDGED (R8, R10, R12). -/
def execAttemptAcknowledged (e : BusEnd) (s : State) : Result :=
  let x := s.port e.port
  match x.attempt with
  | .idle => .next s
  | .head | .completing _ => .next (s.setPort e.port { attemptDelivered x with txErrors := txErrorsAfterGood e.flags x })

/-- ATTEMPT_NOT_ACKNOWLEDGED (R8, R10, R12). -/
def execAttemptNotAcknowledged (e : SilentEnd) (s : State) : Result :=
  let x := s.port e.port
  match x.attempt with
  | .idle => .next s
  | .head | .completing _ =>
    .next (s.setPort e.port { attemptFailed x with txErrors := txErrorsAfterSilence e.dominant e.flags x })

/-- An attempt of a port ends without being counted (R11); a flushed frame is discarded all the same (R8). -/
def attemptDropped (x : Port) : Port :=
  match x.attempt with
  | .head => { x with attempt := .idle }
  | .completing _ => completingLost x
  | .idle => x

/-- An attempt that an error ends counts when the port transmitted beyond arbitration (R11), and when the error takes it to bus-off (R12)
(log 24). -/
def errorCounts (place : ErrorPlace) (txErrors : Nat) : Bool :=
  place == .beyondArbitration || decide (Config.busOffAbove < txErrors)

/-- ATTEMPT_ERROR (R8, R10 to R12): the error may take the controller to bus-off. -/
def execAttemptError (e : ErrorEnd) (s : State) : Result :=
  let x := s.port e.port
  let n := txErrorsAfterError e.place e.flags x
  match x.attempt with
  | .idle => .next s
  | .head | .completing _ =>
    .next (s.setPort e.port { (if errorCounts e.place n then attemptFailed x else attemptDropped x) with txErrors := n })

/-- ARBITRATION_LOST (R8, R11): no attempt is counted; a flushed frame is discarded. -/
def execArbitrationLost (p : PortId) (s : State) : Result :=
  let x := s.port p
  match x.attempt with
  | .idle => .next s
  | .head | .completing _ => .next (s.setPort p (attemptDropped x))

/-- BUS_OFF_RECOVERY (R12): the controller rejoins error-active. -/
def execBusOffRecovery (p : PortId) (s : State) : Result :=
  let x := s.port p
  if portBusOff x then .next (s.setPort p { x with txErrors := 0, rxErrors := 0 }) else .next s

end Sys2Proof.Machine
end

