-- ==== Sys2Proof/Machine/HoldCommands.lean ====
section
/-! DEFINITION. The meanings of the release and the expiry of hold entries (R64, R67). -/

namespace Sys2Proof.Machine

/-- The front of a port's held run may be released (R64). -/
def State.releasable (s : State) (p : PortId) : Bool :=
  (s.port p).state == .active && decide ((s.port p).queue.length < Config.queueMax) && s.hasHeld p

/-- The front of a port's held run (R61). -/
def State.heldFront (s : State) (p : PortId) : Option HoldEntry := s.hold.find? (fun e => e.dest == p)

/-- HOLD_RELEASE (R64): one entry moves to the tail of its port's transmit queue. -/
def execHoldRelease (p : PortId) (s : State) : Result :=
  match s.releasable p, s.heldFront p with
  | true, some e => .next ({ s with hold := s.hold.eraseP (fun e => e.dest == p) }.offer p e.frame)
  | _, _ => .next s

/-- HOLD_EXPIRY (R67): the entry at a position of the queue, the oldest at 0, is removed when its deadline passes. -/
def execHoldExpiry (i : Fin 48) (s : State) : Result :=
  match s.hold[i.val]? with
  | some e =>
    let t := s.elapse e.remaining
    .next ({ t with hold := t.hold.eraseIdx i.val }.count e.dest .holdExpired)
  | none => .next s

end Sys2Proof.Machine
end

