-- ==== Sys2Proof/Machine/GroupCommands.lean ====
section
/-! DEFINITION. The meanings of the power-good and power-fault events and of the sequence timers of a group (R77 to R82). -/

namespace Sys2Proof.Machine

/-- The level of PGk as it is found (R77, log 12). -/
def State.setPg (s : State) (g : GroupId) (level : Bool) : State :=
  { s with pg := if level then s.pg ||| (1#8 <<< g.val) else s.pg &&& ~~~(1#8 <<< g.val) }

/-- POWER_GOOD_ASSERTED (R78): a POWERING group in WAIT mode enters RELEASING. -/
def execPowerGoodAsserted (g : GroupId) (s : State) : Result :=
  let t := s.setPg g true
  match (s.group g).state, (s.group g).timer with
  | .powering, .powerGoodWait _ => .next (enterReleasing g t)
  | _, _ => .next t

/-- POWER_GOOD_DELAY_EXPIRY (R78). -/
def execPowerGoodDelayExpiry (g : GroupId) (s : State) : Result :=
  match (s.group g).state, (s.group g).timer with
  | .powering, .powerGoodDelay left => .next (enterReleasing g (s.elapse left))
  | _, _ => .next s

/-- POWER_GOOD_TIMEOUT (R78, R82). -/
def execPowerGoodTimeout (g : GroupId) (s : State) : Result :=
  match (s.group g).state, (s.group g).timer with
  | .powering, .powerGoodWait left => .next (enterFault g .pgTimeout (s.elapse left))
  | _, _ => .next s

/-- POWER_GOOD_LOST (R79, R82): a RELEASING or UP group with its watch on enters FAULT. -/
def execPowerGoodLost (g : GroupId) (s : State) : Result :=
  let t := s.setPg g false
  if (s.group g).state.wakeOn && (s.group g).watch then .next (enterFault g .pgLost t) else .next t

/-- POWER_FAULT (R77, R82): PFk has been asserted for 1 ms while the supply is on, and at least 1 ms has passed since entry into
POWERING (log 13). -/
def execPowerFault (g : GroupId) (s : State) : Result :=
  if (s.group g).state.supplyOn then .next (enterFault g .powerFault (s.elapse (s.group g).faultGuard)) else .next s

/-- SETTLE_EXPIRY (R79, R80). -/
def execSettleExpiry (g : GroupId) (s : State) : Result :=
  match (s.group g).state, (s.group g).timer with
  | .releasing, .settle left => .next (enterUp g (s.elapse left))
  | _, _ => .next s

/-- LINGER_EXPIRY (R80, R81). -/
def execLingerExpiry (g : GroupId) (s : State) : Result :=
  match (s.group g).state, (s.group g).timer with
  | .up, .linger left => .next (enterDraining g (s.elapse left))
  | _, _ => .next s

/-- DRAIN_EXPIRY (R81). -/
def execDrainExpiry (g : GroupId) (s : State) : Result :=
  match (s.group g).state, (s.group g).timer with
  | .draining, .drain left => .next (enterOff g (s.elapse left))
  | _, _ => .next s

end Sys2Proof.Machine
end

