-- ==== Sys2Proof/Machine/ClockCommands.lean ====
section
/-! DEFINITION. The meanings of the part-wide timers and of the ends of verification and copy (R30, R37, R106, R108, R120, R133, R136,
R148). -/

namespace Sys2Proof.Machine

/-- MGMT_LINGER_EXPIRY (R148): the timer is stopped and the awakeness of port 0 is recomputed. -/
def execMgmtLingerExpiry (s : State) : Result :=
  match s.agent.linger with
  | some left =>
    let t := s.elapse left
    .next ({ t with agent := { t.agent with linger := none } }.sync)
  | none => .next s

/-- SETTLEMENT (R120): the accounting timer expires in PARKED. -/
def execSettlement (s : State) : Result :=
  match s.mode.mode, s.charge.timer with
  | .parked, some left => .next (settleInterval (s.elapse left))
  | _, _ => .next s

/-- WINDOW_EXPIRY (R133): the storm count is set to 0 and the window timer stays stopped. -/
def execWindowExpiry (g : GroupId) (s : State) : Result :=
  match (s.stormOf g).window with
  | some left =>
    let t := s.elapse left
    .next (t.setStorm g { t.stormOf g with count := 0, window := none })
  | none => .next s

/-- QUARANTINE_EXPIRY (R136). -/
def execQuarantineExpiry (g : GroupId) (s : State) : Result :=
  match (s.group g).state, (s.stormOf g).quarantine with
  | .quarantined, some left => .next (endQuarantine .supervision none g (s.elapse left))
  | _, _ => .next s

/-- PARK_SETTLE_EXPIRY (R108). -/
def execParkSettleExpiry (s : State) : Result :=
  match s.mode.parkSettle with
  | some left =>
    let t := s.elapse left
    .next { t with mode := { t.mode with parkSettle := none } }
  | none => .next s

/-- MODE_TIME_TICK (R106): the mode time increases by one, stopping at its maximum. -/
def execModeTimeTick (s : State) : Result :=
  let t := s.elapse s.mode.secondLeft
  .next { t with mode := { t.mode with modeTime := satAdd Config.wordMax t.mode.modeTime 1, secondLeft := 1000 } }

/-- VERIFICATION_COMPLETE (R30); it may come at any time up to its bound (log 19). -/
def execVerificationComplete (s : State) : Result :=
  match s.agent.state with
  | .verifying => .next (completeVerification s)
  | .idle | .copying => .next s

/-- COPY_COMPLETE (R37); it may come at any time up to its bound (log 19). -/
def execCopyComplete (s : State) : Result :=
  match s.agent.state with
  | .copying => .next (completeCopy s)
  | .idle | .verifying => .next s

end Sys2Proof.Machine
end

