-- ==== Sys2Proof/Machine/RequestCommands.lean ====
section
/-! DEFINITION. The meanings of the management requests: each is taken as Machine/Intake.lean says, after what its frame comes behind. A
request frame has at most seven bytes after its command code (log 22). -/

namespace Sys2Proof.Machine

/-- STATUS (R159). -/
def execStatus (args : List Byte) (s : State) : Result :=
  .next (serveStatus args (s.requestArrives (0x01 :: args.take 7)))

/-- READ-BUDGET (R130, R160). -/
def execReadBudget (args : List Byte) (s : State) : Result :=
  .next (serveReadBudget args (s.requestArrives (0x02 :: args.take 7)))

/-- READ-GROUP (R160). -/
def execReadGroup (args : List Byte) (s : State) : Result :=
  .next (serveReadGroup args (s.requestArrives (0x03 :: args.take 7)))

/-- READ-HISTORY (R144, R162). -/
def execReadHistory (args : List Byte) (s : State) : Result :=
  .next (serveReadHistory args (s.requestArrives (0x04 :: args.take 7)))

/-- READ-COUNTERS (R18, R161). -/
def execReadCounters (args : List Byte) (s : State) : Result :=
  .next (serveReadCounters args (s.requestArrives (0x05 :: args.take 7)))

/-- SET-POINTER (R153). -/
def execSetPointer (args : List Byte) (s : State) : Result :=
  .next (serveSetPointer args (s.requestArrives (0x06 :: args.take 7)))

/-- READ-TABLE (R154). -/
def execReadTable (args : List Byte) (s : State) : Result :=
  .next (serveReadTable args (s.requestArrives (0x07 :: args.take 7)))

/-- ABORT (R31, R156). -/
def execAbort (args : List Byte) (s : State) : Result :=
  .next (serveAbort args (s.requestArrives (0x08 :: args.take 7)))

/-- WRITE-TABLE (R32, R155). -/
def execWriteTable (args : List Byte) (s : State) : Result :=
  .next (serveWriteTable args (s.requestArrives (0x10 :: args.take 7)))

/-- VERIFY (R28, R156). -/
def execVerify (args : List Byte) (s : State) : Result :=
  .next (serveVerify args (s.requestArrives (0x11 :: args.take 7)))

/-- SWAP (R33, R157). -/
def execSwap (args : List Byte) (s : State) : Result :=
  .next (serveSwap args (s.requestArrives (0x12 :: args.take 7)))

/-- LOCK (R38, R158). -/
def execLock (args : List Byte) (s : State) : Result :=
  .next (serveLock args (s.requestArrives (0x13 :: args.take 7)))

/-- WAKE (R163). -/
def execWake (args : List Byte) (s : State) : Result :=
  .next (serveWake args (s.requestArrives (0x14 :: args.take 7)))

/-- CLEAR-FAULT (R83, R164). -/
def execClearFault (args : List Byte) (s : State) : Result :=
  .next (serveClearFault args (s.requestArrives (0x15 :: args.take 7)))

/-- RELEASE-QUARANTINE (R137, R164). -/
def execReleaseQuarantine (args : List Byte) (s : State) : Result :=
  .next (serveReleaseQuarantine args (s.requestArrives (0x16 :: args.take 7)))

/-- CLEAR-HISTORY (R145, R164). -/
def execClearHistory (args : List Byte) (s : State) : Result :=
  .next (serveClearHistory args (s.requestArrives (0x17 :: args.take 7)))

/-- A request that names no command (R146, R149). Bytes whose first names a command are no unknown command, and nothing happens
(log 3). -/
def execUnknownCommand (data : List Byte) (s : State) : Result :=
  match data with
  | [] => .next (serveUnknown [] (s.requestArrives []))
  | c :: rest => if isCommandCode c then .next s else .next (serveUnknown data (s.requestArrives (c :: rest.take 7)))

end Sys2Proof.Machine
end

