-- ==== Sys2Proof/Machine/Dispatch.lean ====
section
/-! DEFINITION. One arm for each command: its meaning, called by its full name. -/

namespace Sys2Proof.Machine

def exec (i : Instr) (s : State) : Host.Outcome State Fault Refusal :=
  match i with
  | .powerOn pins => Sys2Proof.Machine.execPowerOn pins s
  | .pinChange line level => Sys2Proof.Machine.execPinChange line level s
  | .gpiEdge k => Sys2Proof.Machine.execGpiEdge k s
  | .ignEdge => Sys2Proof.Machine.execIgnEdge s
  | .svcEdge => Sys2Proof.Machine.execSvcEdge s
  | .dataFrameReceived e ident dlc data => Sys2Proof.Machine.execDataFrameReceived e ident dlc data s
  | .receptionError e => Sys2Proof.Machine.execReceptionError e s
  | .remoteRequestFrame e ident => Sys2Proof.Machine.execRemoteRequestFrame e ident s
  | .classification p => Sys2Proof.Machine.execClassification p s
  | .txAttemptStart p => Sys2Proof.Machine.execTxAttemptStart p s
  | .attemptAcknowledged e => Sys2Proof.Machine.execAttemptAcknowledged e s
  | .attemptNotAcknowledged e => Sys2Proof.Machine.execAttemptNotAcknowledged e s
  | .attemptError e => Sys2Proof.Machine.execAttemptError e s
  | .arbitrationLost p => Sys2Proof.Machine.execArbitrationLost p s
  | .busOffRecovery p => Sys2Proof.Machine.execBusOffRecovery p s
  | .holdRelease p => Sys2Proof.Machine.execHoldRelease p s
  | .holdExpiry pos => Sys2Proof.Machine.execHoldExpiry pos s
  | .mgmtLingerExpiry => Sys2Proof.Machine.execMgmtLingerExpiry s
  | .powerGoodAsserted g => Sys2Proof.Machine.execPowerGoodAsserted g s
  | .powerGoodDelayExpiry g => Sys2Proof.Machine.execPowerGoodDelayExpiry g s
  | .powerGoodTimeout g => Sys2Proof.Machine.execPowerGoodTimeout g s
  | .powerGoodLost g => Sys2Proof.Machine.execPowerGoodLost g s
  | .powerFault g => Sys2Proof.Machine.execPowerFault g s
  | .settleExpiry g => Sys2Proof.Machine.execSettleExpiry g s
  | .lingerExpiry g => Sys2Proof.Machine.execLingerExpiry g s
  | .drainExpiry g => Sys2Proof.Machine.execDrainExpiry g s
  | .settlement => Sys2Proof.Machine.execSettlement s
  | .windowExpiry g => Sys2Proof.Machine.execWindowExpiry g s
  | .quarantineExpiry g => Sys2Proof.Machine.execQuarantineExpiry g s
  | .parkSettleExpiry => Sys2Proof.Machine.execParkSettleExpiry s
  | .modeTimeTick => Sys2Proof.Machine.execModeTimeTick s
  | .verificationComplete => Sys2Proof.Machine.execVerificationComplete s
  | .copyComplete => Sys2Proof.Machine.execCopyComplete s
  | .status args => Sys2Proof.Machine.execStatus args s
  | .readBudget args => Sys2Proof.Machine.execReadBudget args s
  | .readGroup args => Sys2Proof.Machine.execReadGroup args s
  | .readHistory args => Sys2Proof.Machine.execReadHistory args s
  | .readCounters args => Sys2Proof.Machine.execReadCounters args s
  | .setPointer args => Sys2Proof.Machine.execSetPointer args s
  | .readTable args => Sys2Proof.Machine.execReadTable args s
  | .abort args => Sys2Proof.Machine.execAbort args s
  | .writeTable args => Sys2Proof.Machine.execWriteTable args s
  | .verify args => Sys2Proof.Machine.execVerify args s
  | .swap args => Sys2Proof.Machine.execSwap args s
  | .lock args => Sys2Proof.Machine.execLock args s
  | .wake args => Sys2Proof.Machine.execWake args s
  | .clearFault args => Sys2Proof.Machine.execClearFault args s
  | .releaseQuarantine args => Sys2Proof.Machine.execReleaseQuarantine args s
  | .clearHistory args => Sys2Proof.Machine.execClearHistory args s
  | .unknownCommand data => Sys2Proof.Machine.execUnknownCommand data s

end Sys2Proof.Machine
end

