-- ==== Sys2Proof/Machine/Idle.lean ====
section
/-! DEFINITION. What the part does of its own accord when no command waits: it takes an event that is due, and where none is, one
millisecond passes (DESIGN CHOICE, log 1; the order among due events, log 4). -/

namespace Sys2Proof.Machine

/-- A timer has run out and its expiry has not been taken. -/
def timerDue (t : Option Nat) : Bool := t == some 0

/-- The command of a sequence timer that has run out. -/
def dueSequence (g : GroupId) (x : Group) : Option Instr :=
  match x.state, x.timer with
  | .powering, .powerGoodWait 0 => some (.powerGoodTimeout g)
  | .powering, .powerGoodDelay 0 => some (.powerGoodDelayExpiry g)
  | .releasing, .settle 0 => some (.settleExpiry g)
  | .up, .linger 0 => some (.lingerExpiry g)
  | .draining, .drain 0 => some (.drainExpiry g)
  | _, _ => none

/-- A command, if a condition holds. -/
def dueIf (c : Bool) (i : Instr) : Option Instr := if c then some i else none

/-- The frames and the request that wait, and releases that can be taken (R39, R64, R146). On port 0 a frame and a request never wait
together. -/
def dueTraffic (s : State) : Option Instr :=
  (allPorts.findSome? (fun p => dueIf (s.port p).waiting.isSome (.classification p))).or
    ((s.agent.request.map decodeRequest).or
      (allPorts.findSome? (fun p => dueIf (s.releasable p) (.holdRelease p))))

/-- Debounce timers that have run out (R57). -/
def dueLines (s : State) : Option Instr :=
  (dueIf (timerDue s.lines.ign.debounce) .ignEdge).or
    ((dueIf (timerDue s.lines.svc.debounce) .svcEdge).or
      (allGroups.findSome? (fun k => dueIf (timerDue (s.lines.gpi.get k).debounce) (.gpiEdge k))))

/-- Timers of groups and storm records that have run out (chapter 5, R133, R136). -/
def dueGroups (s : State) : Option Instr :=
  (allGroups.findSome? (fun g => dueSequence g (s.group g))).or
    ((allGroups.findSome? (fun g => dueIf (timerDue (s.stormOf g).window) (.windowExpiry g))).or
      (allGroups.findSome? (fun g =>
        dueIf ((s.group g).state == .quarantined && timerDue (s.stormOf g).quarantine) (.quarantineExpiry g))))

/-- The position of a hold entry whose deadline has passed (R67). -/
def dueHold (s : State) : Option Instr :=
  (s.hold.findIdx? (fun e => e.remaining == 0)).bind (fun i => if h : i < 48 then some (.holdExpiry ⟨i, h⟩) else none)

/-- Part-wide timers that have run out (R28, R37, R106, R108, R120, R148). -/
def dueClock (s : State) : Option Instr :=
  (dueIf (s.mode.mode == .parked && timerDue s.charge.timer) .settlement).or
    ((dueIf (s.mode.secondLeft == 0) .modeTimeTick).or
      ((dueIf (timerDue s.mode.parkSettle) .parkSettleExpiry).or
        ((dueIf (timerDue s.agent.linger) .mgmtLingerExpiry).or
          ((dueIf (s.agent.state == .verifying && timerDue s.agent.opLeft) .verificationComplete).or
            (dueIf (s.agent.state == .copying && timerDue s.agent.opLeft) .copyComplete)))))

/-- The event that the part takes next of its own accord, if one is due. Chapter 10 takes the settlement and the second of the mode time
before an edge at the same moment, and so does this order. -/
def dueCommand (s : State) : Option Instr :=
  (dueTraffic s).or ((dueClock s).or ((dueLines s).or ((dueGroups s).or (dueHold s))))

/-- A step with no command waiting. -/
def idleStep (s : State) : Result :=
  match dueCommand s with
  | some c => exec c s
  | none => .next (s.elapse 1)

end Sys2Proof.Machine
end

