-- ==== Sys2Proof/Safety.lean ====
section
/-! DEFINITION. The terms that statements use, and the laws of the part that every step keeps, as predicates on the state. -/

namespace Sys2Proof.Machine

/-! ### Terms of statements -/

/-- The second state differs from the first at port `p` alone. -/
def OnlyPort (p : PortId) (s t : State) : Prop :=
  t = { s with ports := t.ports } ∧ ∀ q : PortId, q ≠ p → t.port q = s.port q

/-- Between two states of a port, counter `c` has counted `n` occurrences, stopping at 65535, and no other counter has changed (R17). -/
def Counted (c : Counter) (n : Nat) (x y : Port) : Prop :=
  portCounter y c = max (portCounter x c) (min 65535 (portCounter x c + n)) ∧
  ∀ d : Counter, d ≠ c → portCounter y d = portCounter x d

/-- What changes of groups, awakeness and prospects may do to ports and hold queue: waiting frames and CAN error counters stay, no counter but
TX_UNDELIVERED and HOLD_DISCARDED changes, and no hold entry is made, changed or moved (R8, R69, R76). -/
def PortsFollow (s t : State) : Prop :=
  (∀ p : PortId, (t.port p).waiting = (s.port p).waiting ∧ (t.port p).txErrors = (s.port p).txErrors ∧
    (t.port p).rxErrors = (s.port p).rxErrors ∧
    ∀ c : Counter, c ≠ .txUndelivered → c ≠ .holdDiscarded → t.counter p c = s.counter p c) ∧
  t.hold.Sublist s.hold

/-- The debounce timer of a line has expired in `u`, which leaves `t` (R57). -/
def EdgeTaken (l : InputLine) (u t : State) : Prop :=
  t = { u with lines := t.lines } ∧
  t.line l = { pin := (u.line l).pin, level := (u.line l).pin, prev := (u.line l).level, debounce := none } ∧
  ∀ k : InputLine, k ≠ l → t.line k = u.line k

/-- A response with the given data bytes is offered to the transmit queue of port 0, at the request identifier plus one (R147). -/
def State.answered (u : State) (bytes : List Byte) : State :=
  u.offer 0 { ident := .std (u.requestId + 1), data := bytes }

/-- The record that a wake request causes (R142, R143). -/
def RequestRecord (o : WakeOutcome) (g : GroupId) (r : WakeRequest) (s : State) : WakeRecord :=
  { outcome := o, group := g, mode := s.mode.mode, cls := some r.cls, cause := r.cause, source := r.source, rule := r.rule,
    ident := r.ident, faultCause := none, modeTime := s.mode.modeTime, bRem := s.charge.bRem }

/-- A record without class, rule index and identifier (R142, R143). -/
def PlainRecord (o : WakeOutcome) (g : GroupId) (cause : Cause) (source : Option Source) (fault : Option FaultCause) (s : State) :
    WakeRecord :=
  { outcome := o, group := g, mode := s.mode.mode, cls := none, cause := cause, source := source, rule := none, ident := none,
    faultCause := fault, modeTime := s.mode.modeTime, bRem := s.charge.bRem }

/-- An extended request passes the gating check (R150). -/
def State.extendedOpen (s : State) : Prop := s.mode.mode ≠ .parked ∨ s.lines.svc.level = true

/-- A row of Table 9-1 for one request: its command code (Table 11-8), minimum length, gating, and whether its arguments, where it has
them, lie in their ranges. -/
structure RequestRow where
  code     : Byte
  args     : List Byte
  minLen   : Nat
  extended : Bool
  svcOnly  : Bool
  inRange  : Bool
deriving DecidableEq, Repr

/-- The byte at a place of the arguments. -/
def argByte (args : List Byte) (i : Nat) : Nat := (args.getD i 0).toNat

/-- Table 9-1 and Table 11-8. -/
def requestRow : Instr → Option RequestRow
  | .status a => some ⟨0x01, a, 2, false, false, decide (argByte a 0 ≤ 1)⟩
  | .readBudget a => some ⟨0x02, a, 2, false, false, decide (argByte a 0 ≤ 4)⟩
  | .readGroup a => some ⟨0x03, a, 2, false, false, decide (argByte a 0 ≤ 7)⟩
  | .readHistory a => some ⟨0x04, a, 3, false, false, decide (argByte a 0 ≤ 31 ∧ argByte a 1 ≤ 3)⟩
  | .readCounters a => some ⟨0x05, a, 4, false, false, decide (argByte a 0 ≤ 4 ∧ argByte a 1 ≤ 5)⟩
  | .setPointer a => some ⟨0x06, a, 4, false, false, decide (argByte a 0 ≤ 1 ∧ argByte a 1 ≤ 15 ∧ argByte a 2 ≤ 127)⟩
  | .readTable a => some ⟨0x07, a, 1, false, false, true⟩
  | .abort a => some ⟨0x08, a, 1, false, false, true⟩
  | .writeTable a => some ⟨0x10, a, 2, true, false, true⟩
  | .verify a => some ⟨0x11, a, 1, true, false, true⟩
  | .swap a => some ⟨0x12, a, 1, true, false, true⟩
  | .lock a => some ⟨0x13, a, 3, false, true, true⟩
  | .wake a => some ⟨0x14, a, 3, true, false, decide (argByte a 1 ≤ 3)⟩
  | .clearFault a => some ⟨0x15, a, 2, true, false, true⟩
  | .releaseQuarantine a => some ⟨0x16, a, 2, true, false, true⟩
  | .clearHistory a => some ⟨0x17, a, 1, true, false, true⟩
  | .unknownCommand _ | .powerOn _ | .pinChange _ _ | .gpiEdge _ | .ignEdge | .svcEdge | .dataFrameReceived _ _ _ _
  | .receptionError _ | .remoteRequestFrame _ _ | .classification _ | .txAttemptStart _ | .attemptAcknowledged _
  | .attemptNotAcknowledged _ | .attemptError _ | .arbitrationLost _ | .busOffRecovery _ | .holdRelease _ | .holdExpiry _
  | .mgmtLingerExpiry | .powerGoodAsserted _ | .powerGoodDelayExpiry _ | .powerGoodTimeout _ | .powerGoodLost _ | .powerFault _
  | .settleExpiry _ | .lingerExpiry _ | .drainExpiry _ | .settlement | .windowExpiry _ | .quarantineExpiry _ | .parkSettleExpiry
  | .modeTimeTick | .verificationComplete | .copyComplete => none

/-- The entries of a rule list from an entry position on, each with its rule index, up to END (R25). -/
def Memory.entriesFrom (m : Memory) : (fuel pos index : Nat) → List (Nat × RuleEntry)
  | 0, _, _ => []
  | fuel + 1, pos, index =>
    match m.entryAt pos with
    | .rule e => (index, e) :: Memory.entriesFrom m fuel (pos + e.bytes) (index + 1)
    | .unknown | .last => []

/-- The chain of a frame: the entries that match it, up to and including the first that has no continue flag (R40, 3.4). -/
def chainOf (s : State) (src : PortId) (f : Frame) : List (Nat × RuleEntry) → List (Nat × RuleEntry)
  | [] => []
  | (i, e) :: rest =>
    if entryMatches s src f e then
      if e.cont then (i, e) :: chainOf s src f rest else [(i, e)]
    else chainOf s src f rest

/-- The state in which a command takes effect: where it is the reception of a frame, what waits at that port has been taken before (R39,
R146); the row of a request that does not wait is such a reception too (log 11). -/
def State.before (c : Instr) (s : State) : State :=
  match c with
  | .dataFrameReceived e _ _ _ | .remoteRequestFrame e _ => if portBusOff (s.port e.port) then s else s.takeWaiting e.port
  | .unknownCommand (x :: rest) => if isCommandCode x then s else s.requestArrives (x :: rest.take 7)
  | c =>
    match requestBytes c with
    | some d => s.requestArrives (d.take 8)
    | none => s

/-! ### Groups at a mode entry -/

/-- A channel in OFF: outputs off, no timer, no grant class, no watch; the last fault cause stays (R81, R83, R93). -/
def offChannel (x : Group) : Group :=
  { x with state := .off, timer := .stopped, grantClass := none, watch := false, faultGuard := 0 }

/-- A drive-forced channel that enters RELEASING in DRIVE: with its watch on and PGk negated it is in FAULT at once, with a settle time of
0 in UP with its linger suspended (R79, R80). -/
def releasedChannel (r : GroupParams) (pg : Bool) (x : Group) : Group :=
  if r.pgMode = .wait ∧ pg = false then { offChannel x with state := .fault, lastFault := some .pgLost }
  else if r.settle = 0 then { x with state := .up, timer := .stopped, watch := decide (r.pgMode = .wait) }
  else { x with state := .releasing, timer := .settle r.settle, watch := decide (r.pgMode = .wait) }

/-- A channel that DRIVE takes up as drive-forced, with its record and the level of PGk (R93 step 3, R36, R78, R79). -/
def forcedChannel (r : GroupParams) (pg : Bool) (x : Group) : Group :=
  match x.state with
  | .up => { x with timer := .stopped, grantClass := some 0 }
  | .powering | .releasing => { x with grantClass := some 0 }
  | .draining => releasedChannel r pg { x with grantClass := some 0 }
  | .off =>
    let y : Group := { x with state := .powering, grantClass := some 0, watch := false, faultGuard := 1 }
    match r.pgMode with
    | .delay ms => { y with timer := .powerGoodDelay ms }
    | .wait => if pg then releasedChannel r pg y else { y with timer := .powerGoodWait r.pgTimeout }
  | .fault | .quarantined => x

/-- The record that taking up a drive-forced group writes: GRANTED from OFF, FAULT for a re-wake from DRAINING that loses power-good at
once, else none (R82, R88, R93). `t` gives mode, mode time and B_rem. -/
def forcedRecord (r : GroupParams) (pg : Bool) (x : Group) (g : GroupId) (t : State) : Option WakeRecord :=
  match x.state with
  | .off =>
    some (RequestRecord .granted g { set := 0xFF, cls := 0, cause := .mode, source := none, rule := none, ident := none } t)
  | .draining => if r.pgMode = .wait ∧ pg = false then some (PlainRecord .fault g .supervision none (some .pgLost) t) else none
  | .up | .powering | .releasing | .fault | .quarantined => none

/-- DRIVE entry for one channel: FAULT and QUARANTINED become OFF, then a drive-forced channel is taken up (R93). -/
def enteringChannel (x : Group) : Group := if x.state = .fault ∨ x.state = .quarantined then offChannel x else x

/-- Exhaustion forces a channel of class 1 to 3 (R92). -/
def exhaustedChannel (r : GroupParams) (x : Group) : Group :=
  if lowClass x then
    match x.state with
    | .powering => offChannel x
    | .releasing | .up => if r.drain = 0 then offChannel x else { x with state := .draining, timer := .drain r.drain }
    | .draining | .off | .fault | .quarantined => x
  else x

/-- PARKED entry for one channel: forced when P_active is 0 (R116), then a suspended linger of a drive-forced group starts (R94). -/
def parkedChannel (r : GroupParams) (spent : Bool) (x : Group) : Group :=
  let y := if spent then exhaustedChannel r x else x
  if r.driveForced = true ∧ y.state = .up ∧ y.timer = .stopped then { y with timer := .linger r.tmin } else y

/-- Records written one after the other, the first of the list first. -/
def WakeHistory.pushAll (h : WakeHistory) (l : List WakeRecord) : WakeHistory := l.foldl WakeHistory.push h

/-- The FORCED_DRAIN records of an exhaustion, over the channels before it; `t` gives mode, mode time and B_rem (R92). -/
def drainRecords (x : GroupId → Group) (t : State) : List WakeRecord :=
  (allGroups.filter (fun g => lowClass (x g) &&
    ((x g).state == .powering || (x g).state == .releasing || (x g).state == .up))).map
    (fun g => PlainRecord .forcedDrain g .supervision none none t)

/-! ### Ports (R5 to R10, R17) -/

/-- A port is ACTIVE exactly while it is awake (R5), holds frames only while ACTIVE (R8), at most sixteen of them (R9), fewer than eight
failed attempts of its head frame (R10), and an attempt of the head only while there is one. -/
def PortLaw (s : State) (p : PortId) : Prop :=
  ((s.port p).state = .active ↔ s.awake p = true) ∧
  ((s.port p).state = .listen → (s.port p).queue = []) ∧
  (s.port p).queue.length ≤ 16 ∧
  (s.port p).attempts < 8 ∧
  ((s.port p).queue = [] → (s.port p).attempts = 0) ∧
  ((s.port p).attempt = .head → (s.port p).queue ≠ [])

/-- The law of every port; at port 0 a frame for the classifier and a request for the agent never wait together (R39, R146). -/
def PortsLaw (s : State) : Prop :=
  (∀ p : PortId, PortLaw s p) ∧ ((s.port 0).waiting = none ∨ s.agent.request = none)

/-- Each of the eleven counters of every port stops at 65535 (R17). -/
def CountersLaw (s : State) : Prop := ∀ (p : PortId) (c : Counter), s.counter p c ≤ 65535

/-! ### Hold queue (R61, R69) -/

/-- At most 48 entries, each for a port that has prospects. -/
def HoldLaw (s : State) : Prop := s.hold.length ≤ 48 ∧ ∀ e ∈ s.hold, s.prospects e.dest = true

/-! ### Rule store (R19, R30, R33, R37, R100) -/

/-- Both banks have the canonical form. -/
def BanksLaw (s : State) : Prop := s.store.bank0.wf = true ∧ s.store.bank1.wf = true

/-- Only a verified table is ever active (R33): a VERIFIED standby bank verifies, the active bank verifies once the part is configured,
the part is UNCONFIGURED exactly while it is not configured (R100), and the standby state is DIRTY while an operation is in flight. -/
def VerifiedLaw (s : State) : Prop :=
  (s.store.standby = .verified → verifyBank s.store.standbyBank = none) ∧
  (s.mode.configured = true → verifyBank s.activeBank = none) ∧
  (s.mode.mode = .unconfigured ↔ s.mode.configured = false) ∧
  (s.agent.state ≠ .idle → s.store.standby = .dirty) ∧
  (s.agent.state = .copying → s.mode.configured = true)

/-! ### Groups (R75, R80, R82, R90) -/

/-- The sequence timer of a channel is the one of its state (R75). -/
def timerFits : GroupState → SeqTimer → Bool
  | .off, .stopped | .fault, .stopped | .quarantined, .stopped => true
  | .powering, .powerGoodWait _ | .powering, .powerGoodDelay _ => true
  | .releasing, .settle _ => true
  | .up, .linger _ | .up, .stopped => true
  | .draining, .drain _ => true
  | _, _ => false

/-- The timer fits the state, a grant class is held exactly in the supply-on states (R90), a watch only there, and FAULT has a cause. -/
def GroupLaw (x : Group) : Prop :=
  timerFits x.state x.timer = true ∧
  (x.grantClass.isSome = true ↔ x.state.supplyOn = true) ∧
  (x.watch = true → x.state.supplyOn = true) ∧
  (x.state = .fault → x.lastFault ≠ none)

/-- The law of every group. -/
def GroupsLaw (s : State) : Prop := ∀ g : GroupId, GroupLaw (s.group g)

/-- In DRIVE and PARKED a group that is not present in the active bank is OFF (R36, R75). -/
def AbsentLaw (s : State) : Prop :=
  s.mode.mode ≠ .unconfigured → ∀ g : GroupId, s.activeBank.present g = false → (s.group g).state = .off

/-! ### Charge account (R113, R114, R118) -/

/-- B_rem + spent + cut equals P_active, and every item stays in its range (R113, R114); L1 ≤ L2 ≤ L3 ≤ P_active (R124). -/
def ChargeLaw (s : State) : Prop :=
  s.charge.bRem + s.charge.spent + s.charge.cut = s.charge.pActive ∧ s.charge.pActive ≤ 4294967295 ∧
  s.charge.carry ≤ 999 ∧ (∀ g : GroupId, s.charge.drawn.get g ≤ 1000) ∧ s.charge.inrush ≤ 2040 ∧
  s.charge.shortfall ≤ 4294967295 ∧
  s.charge.l1 ≤ s.charge.l2 ∧ s.charge.l2 ≤ s.charge.l3 ∧ s.charge.l3 ≤ s.charge.pActive

/-- Once loaded, the level is the one that B_rem and the thresholds give (R125); before, it is OPEN (R117). -/
def LevelLaw (s : State) : Prop :=
  (s.charge.loaded = true →
    s.charge.level =
      if s.charge.bRem = 0 then .exhausted
      else if s.charge.l3 ≤ s.charge.bRem then .opened
      else if s.charge.l2 ≤ s.charge.bRem then .restricted
      else .essential) ∧
  (s.charge.loaded = false → s.charge.level = .opened)

/-- While B_rem is 0 in PARKED, no group with grant class 1, 2 or 3 is in POWERING, RELEASING or UP (R91). -/
def ExhaustionLaw (s : State) : Prop :=
  s.mode.mode = .parked → s.charge.bRem = 0 →
    ∀ g : GroupId, lowClass (s.group g) = true →
      (s.group g).state ≠ .powering ∧ (s.group g).state ≠ .releasing ∧ (s.group g).state ≠ .up

/-! ### Modes (R89, R103, R108, R131) -/

/-- IGN is high in DRIVE and low in PARKED (R103); the park-settle timer and the accounting timer run only in PARKED (R108, R113), the
latter always. -/
def ModeLaw (s : State) : Prop :=
  (s.mode.mode = .drive → s.lines.ign.level = true) ∧
  (s.mode.mode = .parked → s.lines.ign.level = false) ∧
  (s.mode.parkSettle.isSome = true → s.mode.mode = .parked) ∧
  (s.charge.timer.isSome = true ↔ s.mode.mode = .parked) ∧
  s.mode.modeTime ≤ 4294967295

/-- The storm count never exceeds the storm limit in use (R131); outside PARKED every storm record is clear and no group is QUARANTINED
(R89, R131); a window runs only over a count above 0 and not in QUARANTINED, a quarantine timer only there (R132 to R134). -/
def StormLaw (s : State) : Prop :=
  (∀ g : GroupId, (s.stormOf g).count ≤ s.activeBank.stormLimit) ∧
  (s.mode.mode ≠ .parked →
    ∀ g : GroupId, s.stormOf g = StormRecord.atPowerOn ∧ (s.group g).state ≠ .quarantined) ∧
  (∀ g : GroupId,
    ((s.stormOf g).count = 0 → (s.stormOf g).window = none) ∧
    ((s.group g).state = .quarantined → (s.stormOf g).window = none) ∧
    ((s.stormOf g).quarantine.isSome = true → (s.group g).state = .quarantined))

/-! ### Wake history (R140) -/

/-- At most 32 records; the overwrite count stops at 65535 and counts only once 32 are held. -/
def HistoryLaw (s : State) : Prop :=
  s.history.records.length ≤ 32 ∧ s.history.overwrites ≤ 65535 ∧
  (s.history.overwrites ≠ 0 → s.history.records.length = 32)

end Sys2Proof.Machine
end

