-- ==== Sys2Proof/Certificates/Slice0/Obligations.lean ====
section
/-! DEFINITION. The statements for the provers, block by block. Rules R<n> are cited with each; a log entry is named where a statement
rests on a choice of the model. -/

open Sys2Proof Sys2Proof.Machine

/-! ### The machine -/

/-- A step takes the command at the front of the queue and runs it with the queue's rest (file 95: each command whole; log 20). -/
def Obligations.StepTakesFrontCommand : Prop :=
  ∀ (c : Instr) (rest : List Instr) (s : State), s.pending = c :: rest → step s = exec c { s with pending := rest }

/-- The model's choice (log 1, log 4): on an empty queue a step takes the event that is due, and where none is due 1 ms passes. -/
def Obligations.EmptyQueueStepTakesDueEventOrTime : Prop :=
  ∀ s : State, s.pending = [] →
    (∀ c : Instr, dueCommand s = some c → step s = exec c s) ∧ (dueCommand s = none → step s = .next (s.elapse 1))

/-- The model's choice (log 3, log 20), where the manual names no outcome that stops the part: every command answers a next state, also
one whose event cannot occur, and none touches the queue of commands. -/
def Obligations.EveryCommandCompletesAndKeepsQueue : Prop :=
  ∀ (c : Instr) (s : State), ∃ t : State, exec c s = .next t ∧ t.pending = s.pending

/-- R112, R101, between the state in which a command takes effect (`State.before`, log 11) and the state it leaves: outside power-on the straps
stay, `configured` is never taken back, and the mode changes only with a debounced IGN edge between DRIVE and PARKED or with the first
swap, each time as the debounced IGN level says. -/
def Obligations.ModeChangesOnlyByItsEvents : Prop :=
  ∀ (c : Instr) (r s t : State), s = r.before c → exec c r = .next t → (∀ pins : PowerOnPins, c ≠ .powerOn pins) →
    (t.mode.ma1 = s.mode.ma1 ∧ t.mode.ma0 = s.mode.ma0 ∧ t.mode.fb = s.mode.fb) ∧
    (s.mode.configured = true → t.mode.configured = true) ∧
    (t.mode.mode ≠ s.mode.mode →
      (c = .ignEdge ∧ s.mode.mode = .drive ∧ t.mode.mode = .parked ∧ t.lines.ign.level = false) ∨
      (c = .ignEdge ∧ s.mode.mode = .parked ∧ t.mode.mode = .drive ∧ t.lines.ign.level = true) ∨
      (∃ args : List Byte, c = .swap args ∧ s.mode.configured = false ∧ t.mode.configured = true ∧
        t.mode.mode = if t.lines.ign.level then .drive else .parked))

/-- R32, R33, R37, R38, R30, between the state in which a command takes effect (`State.before`, log 11) and the state it leaves: outside
power-on the active bank changes only by a swap, which needs the agent IDLE and the standby bank VERIFIED and changes no byte; the standby bank's
bytes change only by WRITE-TABLE and the end of a copy; the lock page set only by LOCK with SVC asserted; the verify fault record only by
VERIFY and the end of a verification. -/
def Obligations.TableChangesOnlyByItsEvents : Prop :=
  ∀ (c : Instr) (r s t : State), s = r.before c → exec c r = .next t → (∀ pins : PowerOnPins, c ≠ .powerOn pins) →
    ((∀ args : List Byte, c ≠ .swap args) → t.activeBank = s.activeBank) ∧
    ((∀ args : List Byte, c ≠ .swap args) → t.store.standbyBank ≠ s.store.standbyBank →
      (∃ args : List Byte, c = .writeTable args ∧ s.agent.state = .idle) ∨ (c = .copyComplete ∧ s.agent.state = .copying)) ∧
    (∀ args : List Byte, c = .swap args →
      t.store.bank0 = s.store.bank0 ∧ t.store.bank1 = s.store.bank1 ∧
      (t.store.activeIsOne ≠ s.store.activeIsOne → s.agent.state = .idle ∧ s.store.standby = .verified)) ∧
    (t.store.lockPages ≠ s.store.lockPages → (∃ args : List Byte, c = .lock args) ∧ s.lines.svc.level = true) ∧
    (t.store.verifyFault ≠ s.store.verifyFault → (∃ args : List Byte, c = .verify args) ∨ c = .verificationComplete)

/-- R114, between the state in which a command takes effect (`State.before`, log 11) and the state it leaves: outside power-on P_active
changes only at a PARKED entry (an IGN edge, or the first swap); a settlement moves charge from B_rem to spent, a classification (battery reports)
from B_rem to cut, and nothing else moves charge. -/
def Obligations.BudgetMovesOnlyByItsEvents : Prop :=
  ∀ (c : Instr) (r s t : State), s = r.before c → exec c r = .next t →
    (∀ pins : PowerOnPins, c ≠ .powerOn pins) → c ≠ .ignEdge →
    ((∀ args : List Byte, c ≠ .swap args) ∨ s.mode.configured = true) →
    t.charge.pActive = s.charge.pActive ∧
    (c = .settlement →
      t.charge.cut = s.charge.cut ∧ t.charge.bRem ≤ s.charge.bRem ∧
      t.charge.bRem + t.charge.spent = s.charge.bRem + s.charge.spent) ∧
    (∀ p : PortId, c = .classification p →
      t.charge.spent = s.charge.spent ∧ t.charge.bRem ≤ s.charge.bRem ∧
      t.charge.bRem + t.charge.cut = s.charge.bRem + s.charge.cut) ∧
    (c ≠ .settlement → (∀ p : PortId, c ≠ .classification p) →
      t.charge.bRem = s.charge.bRem ∧ t.charge.spent = s.charge.spent ∧ t.charge.cut = s.charge.cut)

/-! ### Laws that every step keeps -/

/-- R5 to R10, R39, R146: ACTIVE exactly while awake, frames queued only while ACTIVE, at most 16 of them, fewer than 8 failed attempts,
and at port 0 never a frame and a request waiting together. -/
def Obligations.StepKeepsPortsLaw : Prop :=
  ∀ s t : State, PortsLaw s → step s = .next t → PortsLaw t

/-- R17, R140: counters stop at 65535; at most 32 records, overwritten only when 32 are held. -/
def Obligations.StepKeepsCountersAndHistoryLaw : Prop :=
  ∀ s t : State, step s = .next t → (CountersLaw s → CountersLaw t) ∧ (HistoryLaw s → HistoryLaw t)

/-- R61, R69: at most 48 hold entries, each for a port with prospects. -/
def Obligations.StepKeepsHoldLaw : Prop :=
  ∀ s t : State, HoldLaw s → step s = .next t → HoldLaw t

/-- R19, R33: both banks keep their canonical form, and only a verified table is ever active. -/
def Obligations.StepKeepsBanksAndVerifiedLaw : Prop :=
  ∀ s t : State, step s = .next t → (BanksLaw s → BanksLaw t) ∧ (VerifiedLaw s → VerifiedLaw t)

/-- R75, R90: the timer, the grant class and the watch of every channel fit its state. -/
def Obligations.StepKeepsGroupsLaw : Prop :=
  ∀ s t : State, GroupsLaw s → step s = .next t → GroupsLaw t

/-- R91: in PARKED with B_rem 0 no group of class 1 to 3 is POWERING, RELEASING or UP. -/
def Obligations.StepKeepsExhaustionLaw : Prop :=
  ∀ s t : State, GroupsLaw s → ExhaustionLaw s → step s = .next t → ExhaustionLaw t

/-- R36, R75: a group that is not present in the active bank stays OFF in DRIVE and PARKED. -/
def Obligations.StepKeepsAbsentLaw : Prop :=
  ∀ s t : State, AbsentLaw s → step s = .next t → AbsentLaw t

/-- R113, R114, R117, R124, R125: the sum of the account, its ranges, the order of the thresholds, and the level. -/
def Obligations.StepKeepsChargeAndLevelLaw : Prop :=
  ∀ s t : State, step s = .next t → (ChargeLaw s → ChargeLaw t) ∧ (LevelLaw s → LevelLaw t)

/-- R103, R108, R113, R131, R132, R134: the mode agrees with the IGN level, park-settle and accounting timers run only in PARKED, and
storm records stay within the limit and clear outside PARKED. -/
def Obligations.StepKeepsModeAndStormLaw : Prop :=
  ∀ s t : State, step s = .next t → (ModeLaw s → ModeLaw t) ∧ (StormLaw s → StormLaw t)

/-- The state after reset meets every law. -/
def Obligations.ResetMeetsEveryLaw : Prop :=
  PortsLaw State.reset ∧ CountersLaw State.reset ∧ HistoryLaw State.reset ∧ HoldLaw State.reset ∧ BanksLaw State.reset ∧
  VerifiedLaw State.reset ∧ GroupsLaw State.reset ∧ ExhaustionLaw State.reset ∧ AbsentLaw State.reset ∧ ChargeLaw State.reset ∧
  LevelLaw State.reset ∧ ModeLaw State.reset ∧ StormLaw State.reset

/-! ### Requests as data bytes -/

/-- Table 11-8: a well-formed management command and the data bytes of its request determine each other; every list of at most eight
bytes names exactly one. -/
def Obligations.RequestBytesRoundTrip : Prop :=
  (∀ (i : Instr) (d : List Byte), i.wellFormed = true → requestBytes i = some d → decodeRequest d = i ∧ d.length ≤ 8) ∧
  (∀ d : List Byte, d.length ≤ 8 → requestBytes (decodeRequest d) = some d ∧ (decodeRequest d).wellFormed = true)

/-! ### Power-on, lines and mode entries -/

/-- R6, R17, R19, R57, R61, R75, R97, R100, R101, R102, R113, R131, R140, R148, R151, R153: every item after power-on; under
FALLBACK-AWAKE all groups are POWERING with eight GRANTED records. The
model's choices: bank 0 holds the role ACTIVE (log 6), the CAN error counters are 0 (log 8), a fault guard of 1 ms (log 13), and the queue
stays (log 20). -/
def Obligations.PowerOnSetsEveryItem : Prop :=
  ∀ (pins : PowerOnPins) (s : State), ∃ t : State, exec (.powerOn pins) s = .next t ∧ t.pending = s.pending ∧
    (∀ a : Nat, t.store.bank0.read a = 0 ∧ t.store.bank1.read a = 0) ∧
    (t.store.activeIsOne = false ∧ t.store.standby = .dirty ∧ t.store.verifyFault = none ∧ t.store.lockPages = 0) ∧
    (∀ p : PortId, (t.port p).state = .listen ∧ (t.port p).queue = [] ∧ (t.port p).attempts = 0 ∧ (t.port p).attempt = .idle ∧
      (t.port p).waiting = none ∧ (t.port p).txErrors = 0 ∧ (t.port p).rxErrors = 0 ∧ ∀ c : Counter, t.counter p c = 0) ∧
    (t.lines.ign = { pin := pins.ign, level := pins.ign, prev := pins.ign, debounce := none } ∧
      t.lines.svc = { pin := pins.svc, level := pins.svc, prev := pins.svc, debounce := none } ∧
      ∀ k : GpiId, t.line (.gpi k) =
        { pin := pins.gpi.getLsbD k, level := pins.gpi.getLsbD k, prev := pins.gpi.getLsbD k, debounce := none }) ∧
    t.pg = pins.pg ∧ t.hold = [] ∧
    t.mode = { mode := .unconfigured, modeTime := 0, secondLeft := 1000, parkSettle := none, ma1 := pins.ma1, ma0 := pins.ma0,
               fb := pins.fb, configured := false } ∧
    t.charge = { loaded := false, pActive := 0, bRem := 0, spent := 0, cut := 0, shortfall := 0, carry := 0,
                 drawn := #v[0, 0, 0, 0, 0, 0, 0, 0], inrush := 0, l1 := 0, l2 := 0, l3 := 0, level := .opened, timer := none } ∧
    (∀ g : GroupId, t.stormOf g = { count := 0, window := none, quarantine := none }) ∧
    t.agent = { state := .idle, pointer := { role := .active, page := 0, column := 0 }, latch := none, linger := none,
                request := none, opLeft := none } ∧
    (pins.fb = false →
      (∀ g : GroupId, t.group g =
        { state := .off, timer := .stopped, grantClass := none, watch := false, lastFault := none, faultGuard := 0 }) ∧
      t.history = { records := [], overwrites := 0 }) ∧
    (pins.fb = true →
      (∀ g : GroupId, t.group g =
        { state := .powering, timer := .powerGoodDelay 64, grantClass := some 0, watch := false, lastFault := none, faultGuard := 1 }) ∧
      t.history.overwrites = 0 ∧
      t.history.records = ([7, 6, 5, 4, 3, 2, 1, 0] : List GroupId).map (fun g =>
        { outcome := .granted, group := g, mode := .unconfigured, cls := some 0, cause := .mode, source := none, rule := none,
          ident := none, faultCause := none, modeTime := 0, bRem := 0 }))

/-- R57, R110: a change of level at a pin starts the debounce timer of 10 or 20 ms, or stops it when the pin is back at the debounced
level; an SVC edge, taken when the timer runs out, changes the level of SVC and nothing else. That the rest of the timer's time passes
with the edge is the model's choice (log 2), and so is that an expiry without a running timer changes nothing (log 3). -/
def Obligations.PinChangeAndServiceEdge : Prop :=
  (∀ (l : InputLine) (level : Bool) (s : State), ∃ t : State, exec (.pinChange l level) s = .next t ∧
    t = { s with lines := t.lines } ∧ (∀ k : InputLine, k ≠ l → t.line k = s.line k) ∧
    (t.line l).pin = level ∧ (t.line l).level = (s.line l).level ∧ (t.line l).prev = (s.line l).prev ∧
    (level = (s.line l).pin → (t.line l).debounce = (s.line l).debounce) ∧
    (level ≠ (s.line l).pin → level = (s.line l).level → (t.line l).debounce = none) ∧
    (level ≠ (s.line l).pin → level ≠ (s.line l).level →
      (t.line l).debounce = some (match l with
        | .gpi _ => 10
        | .ign | .svc => 20))) ∧
  (∀ (s : State) (n : Nat), s.lines.svc.debounce = some n →
    ∃ t : State, exec .svcEdge s = .next t ∧ EdgeTaken .svc (s.elapse n) t) ∧
  (∀ s : State, s.lines.svc.debounce = none → exec .svcEdge s = .next s)

/-- R24, R45, R58: in DRIVE and PARKED a debounced edge of GPIk makes the wake request of its line record when the record's edge kind
names it and its condition is true, and otherwise only changes the level (log 2 for the time that passes). The reference set of the
condition is the set of bound ports of the present groups that the record names; the conditions are stated in SearchGathersTheChain and
`takeWake` in GroupRequestsActOnNamedGroups. -/
def Obligations.GpiEdgeWakesByLineRecord : Prop :=
  ∀ (k : GpiId) (s : State) (n : Nat), (s.line (.gpi k)).debounce = some n → s.mode.mode ≠ .unconfigured →
    ∃ u : State, EdgeTaken (.gpi k) (s.elapse n) u ∧
      (∀ p : PortId, (u.lineReference (s.activeBank.lineRecord k).wake).getLsbD p = true ↔
        ∃ g : GroupId, (s.activeBank.lineRecord k).wake.getLsbD g = true ∧ (s.activeBank.groupRecord g).present = true ∧
          (s.activeBank.read (32 + 12 * g.val + 1)).toNat = p.val) ∧
      (((((s.activeBank.lineRecord k).edge = .rise ∧ (s.line (.gpi k)).pin = true) ∨
          ((s.activeBank.lineRecord k).edge = .fall ∧ (s.line (.gpi k)).pin = false) ∨
          (s.activeBank.lineRecord k).edge = .both) ∧
        u.condition (u.lineReference (s.activeBank.lineRecord k).wake) (s.activeBank.lineRecord k).cond = true) →
        exec (.gpiEdge k) s =
          .next (takeWake { set := (s.activeBank.lineRecord k).wake, cls := (s.activeBank.lineRecord k).cls, cause := .line,
                            source := some (.gpi k), rule := none, ident := none } u).1) ∧
      (¬((((s.activeBank.lineRecord k).edge = .rise ∧ (s.line (.gpi k)).pin = true) ∨
          ((s.activeBank.lineRecord k).edge = .fall ∧ (s.line (.gpi k)).pin = false) ∨
          (s.activeBank.lineRecord k).edge = .both) ∧
        u.condition (u.lineReference (s.activeBank.lineRecord k).wake) (s.activeBank.lineRecord k).cond = true) →
        exec (.gpiEdge k) s = .next u)

/-- R98, R102, R103: in UNCONFIGURED an edge of GPIk or IGN makes a request for all groups with class 0 under FALLBACK-QUIET, and none
under FALLBACK-AWAKE (log 2 for the time that passes). -/
def Obligations.UnconfiguredEdgesFollowFallback : Prop :=
  ∀ (s : State) (n : Nat), s.mode.mode = .unconfigured →
    (∀ k : GpiId, (s.line (.gpi k)).debounce = some n →
      ∃ u : State, EdgeTaken (.gpi k) (s.elapse n) u ∧
        exec (.gpiEdge k) s = .next (if s.mode.fb then u else
          (takeWake { set := 0xFF, cls := 0, cause := .line, source := some (.gpi k), rule := none, ident := none } u).1)) ∧
    (s.lines.ign.debounce = some n →
      ∃ u : State, EdgeTaken .ign (s.elapse n) u ∧
        exec .ignEdge s = .next (if s.mode.fb then u else
          (takeWake { set := 0xFF, cls := 0, cause := .line, source := some .ign, rule := none, ident := none } u).1))

/-- R93, R104, R120, R122, R139: a rising IGN edge in PARKED is a DRIVE entry: the mode and its time, the final settlement over the part of
the interval that has passed, clear storm records, each group by its state and its drive-forced flag, also in WAIT mode and with PGk at
either level, and a record for each group that is woken (log 2 for the time that passes, log 12, log 13). -/
def Obligations.IgnitionOnEntersDrive : Prop :=
  ∀ (s : State) (n left total debit : Nat), s.lines.ign.debounce = some n → s.lines.ign.pin = true → s.mode.mode = .parked →
    s.charge.timer = some left →
    total = s.activeBank.baseDraw * (1000 - (left - n))
      + (allGroups.map (fun g => (s.activeBank.groupRecord g).draw * (s.elapse n).charge.drawn.get g)).sum + s.charge.carry →
    debit = total / 1000 + s.charge.inrush →
    ∃ t : State, exec .ignEdge s = .next t ∧
      t.mode = { s.mode with mode := .drive, modeTime := 0, secondLeft := 1000, parkSettle := none } ∧
      t.lines.ign = { pin := true, level := true, prev := s.lines.ign.level, debounce := none } ∧
      t.store = s.store ∧ t.pg = s.pg ∧ t.agent = (s.elapse n).agent ∧ PortsFollow (s.elapse n) t ∧
      t.charge =
        { s.charge with
          carry := total % 1000, bRem := s.charge.bRem - min debit s.charge.bRem,
          spent := s.charge.spent + min debit s.charge.bRem,
          shortfall := max s.charge.shortfall (min 4294967295 (s.charge.shortfall + (debit - min debit s.charge.bRem))),
          drawn := #v[0, 0, 0, 0, 0, 0, 0, 0], inrush := 0,
          level := (if s.charge.loaded then levelOf (s.charge.bRem - min debit s.charge.bRem) s.charge.l2 s.charge.l3
            else s.charge.level),
          timer := none } ∧
      (∀ g : GroupId, t.stormOf g = { count := 0, window := none, quarantine := none }) ∧
      (∀ g : GroupId, t.group g =
        if (s.activeBank.groupRecord g).driveForced then
          forcedChannel (s.activeBank.groupRecord g) (s.pg.getLsbD g) (enteringChannel ((s.elapse n).group g))
        else enteringChannel ((s.elapse n).group g)) ∧
      t.history = s.history.pushAll
        ((allGroups.filter (fun g => (s.activeBank.groupRecord g).driveForced)).filterMap
          (fun g => forcedRecord (s.activeBank.groupRecord g) (s.pg.getLsbD g) (enteringChannel ((s.elapse n).group g)) g t))

/-- R92, R94, R105, R115, R116, R124, R125, R139: a falling IGN edge in DRIVE is a PARKED entry: the budget is loaded and its thresholds and
level computed, storm counts and windows cleared, suspended lingers of drive-forced groups started; with a budget of 0 the groups of
class 1 to 3 are forced before, with a FORCED_DRAIN record each (log 2 for the time that passes). -/
def Obligations.IgnitionOffEntersParked : Prop :=
  ∀ (s : State) (n : Nat), s.lines.ign.debounce = some n → s.lines.ign.pin = false → s.mode.mode = .drive →
    ∃ t : State, exec .ignEdge s = .next t ∧
      t.mode = { s.mode with mode := .parked, modeTime := 0, secondLeft := 1000,
                             parkSettle := some (s.activeBank.parkSettle * 1000) } ∧
      t.lines.ign = { pin := false, level := false, prev := s.lines.ign.level, debounce := none } ∧
      t.store = s.store ∧ t.pg = s.pg ∧ t.agent = (s.elapse n).agent ∧ PortsFollow (s.elapse n) t ∧
      t.charge =
        { loaded := true, pActive := s.activeBank.parkBudget, bRem := s.activeBank.parkBudget, spent := 0, cut := 0,
          shortfall := 0, carry := 0, drawn := #v[0, 0, 0, 0, 0, 0, 0, 0], inrush := 0,
          l1 := s.activeBank.parkBudget * s.activeBank.q1 / 65536,
          l2 := s.activeBank.parkBudget * s.activeBank.q2 / 65536,
          l3 := s.activeBank.parkBudget * s.activeBank.q3 / 65536,
          level :=
            (if s.activeBank.parkBudget = 0 then .exhausted
            else if s.activeBank.parkBudget * s.activeBank.q3 / 65536 ≤ s.activeBank.parkBudget then .opened
            else if s.activeBank.parkBudget * s.activeBank.q2 / 65536 ≤ s.activeBank.parkBudget then .restricted
            else .essential),
          timer := some 1000 } ∧
      (∀ g : GroupId, (t.stormOf g).count = 0 ∧ (t.stormOf g).window = none) ∧
      (s.activeBank.parkBudget ≠ 0 →
        t.ports = (s.elapse n).sync.ports ∧ t.hold = (s.elapse n).sync.hold ∧ t.history = s.history) ∧
      (s.activeBank.parkBudget = 0 → t.history = s.history.pushAll (drainRecords (s.elapse n).group t)) ∧
      (∀ g : GroupId, t.group g =
        parkedChannel (s.activeBank.groupRecord g) (decide (s.activeBank.parkBudget = 0)) ((s.elapse n).group g)) ∧
      (s.activeBank.parkBudget = 0 →
        ∀ g : GroupId, lowClass (t.group g) = true →
          (t.group g).state ≠ .powering ∧ (t.group g).state ≠ .releasing ∧ (t.group g).state ≠ .up)

/-! ### Ports -/

/-- R1 to R4, R39, R146: a frame that waits at a port is taken by the classifier or the agent before the port's next frame completes its
reception, as the row that takes it would; then what a frame on the bus of a port that is not bus-off changes. What the CAN error
counters become is stated in BusOffPortIsSilentUntilRecovery; that a request without its own row waits for the agent is log 11. -/
def Obligations.ReceivedFramesAreCounted : Prop :=
  ∀ (e : BusEnd) (r s : State), portBusOff (r.port e.port) = false → s = r.takeWaiting e.port →
    ((s.port e.port).waiting = none ∧ (e.port = 0 → s.agent.request = none)) ∧
    ((r.port e.port).waiting = none → (e.port = 0 → r.agent.request = none) → s = r) ∧
    (∃ v : State, exec (.classification e.port) r = .next v ∧ (e.port ≠ 0 ∨ v.agent.request = none → s = v) ∧
      ∀ d : List Byte, e.port = 0 → v.agent.request = some d → d.length ≤ 8 → exec (decodeRequest d) v = .next s) ∧
    (∀ (ident : Ident) (dlc : BitVec 4) (data : List Byte), data.length = min dlc.toNat 8 →
      (¬(e.port = 0 ∧ ident = .std s.requestId) →
        ∃ t : State, exec (.dataFrameReceived e ident dlc data) r = .next t ∧ OnlyPort e.port s t ∧
          Counted .rxOk 1 (s.port e.port) (t.port e.port) ∧
          t.port e.port = { s.port e.port with counters := (t.port e.port).counters, rxErrors := (t.port e.port).rxErrors,
                                               waiting := some { ident := ident, data := data } }) ∧
      (e.port = 0 ∧ ident = .std s.requestId →
        ∃ t : State, exec (.dataFrameReceived e ident dlc data) r = .next t ∧
          t = { s with ports := t.ports, agent := { s.agent with request := some data } } ∧
          (∀ q : PortId, q ≠ e.port → t.port q = s.port q) ∧ Counted .rxOk 1 (s.port e.port) (t.port e.port) ∧
          t.port e.port = { s.port e.port with counters := (t.port e.port).counters, rxErrors := (t.port e.port).rxErrors })) ∧
    (∃ t : State, exec (.receptionError e) r = .next t ∧ OnlyPort e.port r t ∧ Counted .rxErr 1 (r.port e.port) (t.port e.port) ∧
      t.port e.port = { r.port e.port with counters := (t.port e.port).counters, rxErrors := (t.port e.port).rxErrors }) ∧
    (∀ ident : Ident, ∃ t : State, exec (.remoteRequestFrame e ident) r = .next t ∧ OnlyPort e.port s t ∧
      Counted .rxRemote 1 (s.port e.port) (t.port e.port) ∧
      t.port e.port = { s.port e.port with counters := (t.port e.port).counters, rxErrors := (t.port e.port).rxErrors })

/-- R7, R10, R12: an ACTIVE port that is not bus-off and has a frame queued and no attempt on the bus starts an attempt of its head; in
every other case nothing happens (log 3). -/
def Obligations.AttemptStartsAtTheHead : Prop :=
  ∀ (p : PortId) (s : State),
    ((s.port p).state = .active ∧ portBusOff (s.port p) = false ∧ (s.port p).queue ≠ [] ∧ (s.port p).attempt = .idle →
      ∃ t : State, exec (.txAttemptStart p) s = .next t ∧ OnlyPort p s t ∧ t.port p = { s.port p with attempt := .head }) ∧
    (¬((s.port p).state = .active ∧ portBusOff (s.port p) = false ∧ (s.port p).queue ≠ [] ∧ (s.port p).attempt = .idle) →
      exec (.txAttemptStart p) s = .next s)

/-- R11, R8: an attempt that loses arbitration is not counted, and the head frame, with its attempt count, contends again: starting anew
gives the state before the loss, so it may be lost any number of times; meanwhile the port receives the winning frame, which touches
neither queue nor attempt count (stated for a port at which nothing waits; ReceivedFramesAreCounted has the others). A flushed
frame that loses is discarded (R8). That a loss without an attempt on the bus changes nothing is the model's choice (log 3). -/
def Obligations.LostArbitrationIsNotCounted : Prop :=
  ∀ (p : PortId) (s : State),
    ((s.port p).attempt = .head →
      ∃ t : State, exec (.arbitrationLost p) s = .next t ∧ OnlyPort p s t ∧ t.port p = { s.port p with attempt := .idle } ∧
        ((s.port p).state = .active → portBusOff (s.port p) = false → (s.port p).queue ≠ [] →
          exec (.txAttemptStart p) t = .next s) ∧
        (∀ (flags : FlagErrors) (ident : Ident) (dlc : BitVec 4) (data : List Byte), portBusOff (s.port p) = false →
          data.length = min dlc.toNat 8 → (s.port p).waiting = none → (p = 0 → s.agent.request = none) →
          ¬(p = 0 ∧ ident = .std s.requestId) →
          ∃ v : State, exec (.dataFrameReceived ⟨p, flags⟩ ident dlc data) t = .next v ∧ (v.port p).queue = (s.port p).queue ∧
            (v.port p).attempts = (s.port p).attempts ∧ (v.port p).attempt = .idle ∧
            (v.port p).waiting = some { ident := ident, data := data })) ∧
    (∀ f : Frame, (s.port p).attempt = .completing f →
      ∃ t : State, exec (.arbitrationLost p) s = .next t ∧ OnlyPort p s t ∧ Counted .txUndelivered 1 (s.port p) (t.port p) ∧
        t.port p = { s.port p with attempt := .idle, counters := (t.port p).counters }) ∧
    ((s.port p).attempt = .idle → exec (.arbitrationLost p) s = .next s)

/-- R8, R10: an acknowledged head frame leaves the queue and counts in TX_OK, the next frame starting with count 0; an acknowledged frame
of a flushed queue counts in TX_OK. The CAN error counter is stated in BusOffPortIsSilentUntilRecovery. That an acknowledgement without
an attempt on the bus changes nothing is the model's choice (log 3). -/
def Obligations.AcknowledgedAttemptCountsTxOk : Prop :=
  ∀ (p : PortId) (flags : FlagErrors) (s : State),
    ((s.port p).attempt = .head →
      ∃ t : State, exec (.attemptAcknowledged ⟨p, flags⟩) s = .next t ∧ OnlyPort p s t ∧ Counted .txOk 1 (s.port p) (t.port p) ∧
        t.port p = { s.port p with queue := (s.port p).queue.tail, attempts := 0, attempt := .idle,
                                   counters := (t.port p).counters, txErrors := (t.port p).txErrors }) ∧
    (∀ f : Frame, (s.port p).attempt = .completing f →
      ∃ t : State, exec (.attemptAcknowledged ⟨p, flags⟩) s = .next t ∧ OnlyPort p s t ∧ Counted .txOk 1 (s.port p) (t.port p) ∧
        t.port p = { s.port p with attempt := .idle, counters := (t.port p).counters, txErrors := (t.port p).txErrors }) ∧
    ((s.port p).attempt = .idle → exec (.attemptAcknowledged ⟨p, flags⟩) s = .next s)

/-- R8, R10, R11, R12: an attempt that is not acknowledged or ends by an error raises the attempt count; at the eighth the frame leaves the
queue and counts in TX_UNDELIVERED, as a flushed frame does at once. An error in arbitration is not counted, unless it takes the port to
bus-off (log 24). The CAN error counter is stated in BusOffPortIsSilentUntilRecovery. -/
def Obligations.FailedAttemptIsRetriedSevenTimes : Prop :=
  ∀ (p : PortId) (s : State) (c : Instr) (place : ErrorPlace) (flags : FlagErrors) (dominant : Bool),
    c = .attemptNotAcknowledged ⟨p, dominant, flags⟩ ∨ c = .attemptError ⟨p, place, flags⟩ →
    ((s.port p).attempt ≠ .idle → ∃ t : State, exec c s = .next t ∧ OnlyPort p s t ∧
      (c = .attemptNotAcknowledged ⟨p, dominant, flags⟩ ∨ place = .beyondArbitration ∨ portBusOff (t.port p) = true →
        (s.port p).attempt = .head →
        ((s.port p).attempts + 1 < 8 →
          t.port p = { s.port p with attempts := (s.port p).attempts + 1, attempt := .idle, txErrors := (t.port p).txErrors }) ∧
        (8 ≤ (s.port p).attempts + 1 →
          Counted .txUndelivered 1 (s.port p) (t.port p) ∧
          t.port p = { s.port p with queue := (s.port p).queue.tail, attempts := 0, attempt := .idle,
                                     counters := (t.port p).counters, txErrors := (t.port p).txErrors })) ∧
      (c = .attemptError ⟨p, place, flags⟩ → place ≠ .beyondArbitration → portBusOff (t.port p) = false →
        (s.port p).attempt = .head → t.port p = { s.port p with attempt := .idle, txErrors := (t.port p).txErrors }) ∧
      (∀ f : Frame, (s.port p).attempt = .completing f →
        Counted .txUndelivered 1 (s.port p) (t.port p) ∧
        t.port p = { s.port p with attempt := .idle, counters := (t.port p).counters, txErrors := (t.port p).txErrors })) ∧
    ((s.port p).attempt = .idle → exec c s = .next s)

/-- R12, with the error counters of the CAN protocol (log 8, log 9): what each end of an attempt and of a frame adds to them, and when a
port is error-passive or bus-off. A bus-off port receives nothing and starts no attempt; recovery makes it error-active again and changes
nothing else. That a recovery of a port that is not bus-off changes nothing is the model's choice (log 3). -/
def Obligations.BusOffPortIsSilentUntilRecovery : Prop :=
  (∀ x : Port, (portBusOff x = true ↔ 255 < x.txErrors) ∧
    (portErrorPassive x = true ↔ x.txErrors ≤ 255 ∧ (127 < x.txErrors ∨ 127 < x.rxErrors))) ∧
  (∀ (p : PortId) (flags : FlagErrors) (s : State), (s.port p).attempt ≠ .idle →
    (∃ t : State, exec (.attemptAcknowledged ⟨p, flags⟩) s = .next t ∧
      (t.port p).txErrors = (s.port p).txErrors - 1 + 8 * (flags.again + flags.dominant)) ∧
    (∀ dominant : Bool, ∃ t : State, exec (.attemptNotAcknowledged ⟨p, dominant, flags⟩) s = .next t ∧
      (t.port p).txErrors = (s.port p).txErrors
        + (if portErrorPassive (s.port p) = true ∧ dominant = false then 0 else 8) + 8 * (flags.again + flags.dominant)) ∧
    (∀ place : ErrorPlace, ∃ t : State, exec (.attemptError ⟨p, place, flags⟩) s = .next t ∧
      (t.port p).txErrors = (s.port p).txErrors
        + (if place = .arbitrationStuffBit then 0 else 8) + 8 * (flags.again + flags.dominant))) ∧
  (∀ (e : BusEnd) (s u : State), portBusOff (s.port e.port) = false → u = s.takeWaiting e.port →
    (∀ c : Instr, (∃ (ident : Ident) (dlc : BitVec 4) (data : List Byte), c = .dataFrameReceived e ident dlc data) ∨
        (∃ ident : Ident, c = .remoteRequestFrame e ident) →
      ∃ (t : State) (n : Nat), exec c s = .next t ∧
        ((u.port e.port).rxErrors ≤ 127 → n = (u.port e.port).rxErrors - 1) ∧
        (127 < (u.port e.port).rxErrors → 119 ≤ n ∧ n ≤ 127) ∧
        (t.port e.port).rxErrors = min 255 (n + (e.flags.again + 8 * e.flags.dominant))) ∧
    (∃ t : State, exec (.receptionError e) s = .next t ∧
      ((s.port e.port).rxErrors ≤ 255 →
        (t.port e.port).rxErrors = min 255 ((s.port e.port).rxErrors + 1 + (e.flags.again + 8 * e.flags.dominant))))) ∧
  (∀ (p : PortId) (s : State),
    (portBusOff (s.port p) = true →
      (∀ (flags : FlagErrors) (ident : Ident) (dlc : BitVec 4) (data : List Byte),
        exec (.dataFrameReceived ⟨p, flags⟩ ident dlc data) s = .next s) ∧
      (∀ flags : FlagErrors, exec (.receptionError ⟨p, flags⟩) s = .next s) ∧
      (∀ (flags : FlagErrors) (ident : Ident), exec (.remoteRequestFrame ⟨p, flags⟩ ident) s = .next s) ∧
      exec (.txAttemptStart p) s = .next s ∧
      ∃ t : State, exec (.busOffRecovery p) s = .next t ∧ OnlyPort p s t ∧ portBusOff (t.port p) = false ∧
        portErrorPassive (t.port p) = false ∧
        t.port p = { s.port p with txErrors := (t.port p).txErrors, rxErrors := (t.port p).rxErrors }) ∧
    (portBusOff (s.port p) = false → exec (.busOffRecovery p) s = .next s))

/-- R9, R62, R63: an offer to a transmit queue by the port's state and the queue's occupancy, and an offer to the hold queue. -/
def Obligations.OffersFollowStateAndRoom : Prop :=
  ∀ (p : PortId) (f : Frame) (s : State),
    OnlyPort p s (s.offer p f) ∧
    ((s.port p).state = .active → (s.port p).queue.length < 16 →
      (s.offer p f).port p = { s.port p with queue := (s.port p).queue ++ [f] }) ∧
    ((s.port p).state = .active → 16 ≤ (s.port p).queue.length →
      Counted .dropQfull 1 (s.port p) ((s.offer p f).port p) ∧
      (s.offer p f).port p = { s.port p with counters := ((s.offer p f).port p).counters }) ∧
    ((s.port p).state = .listen →
      Counted .dropAsleep 1 (s.port p) ((s.offer p f).port p) ∧
      (s.offer p f).port p = { s.port p with counters := ((s.offer p f).port p).counters }) ∧
    (∀ rule : Option Nat,
      (s.hold.length < 48 →
        s.holdFrame p f rule =
          { s with hold := s.hold ++ [{ frame := f, dest := p, remaining := s.activeBank.holdTime, rule := rule }] }) ∧
      (48 ≤ s.hold.length →
        OnlyPort p s (s.holdFrame p f rule) ∧ Counted .holdOverflow 1 (s.port p) ((s.holdFrame p f rule).port p) ∧
        (s.holdFrame p f rule).port p = { s.port p with counters := ((s.holdFrame p f rule).port p).counters }))

/-- R5, R7, R8, R69: when a change is made known, each port becomes ACTIVE or LISTEN as it is awake or not, a port that falls asleep is
flushed, and a port without prospects loses its held run. -/
def Obligations.ChangesAreMadeKnownToPorts : Prop :=
  ∀ s : State,
    s.sync = { s with ports := s.sync.ports, hold := s.hold.filter (fun e => s.prospects e.dest) } ∧
    ∀ p : PortId,
      ((s.sync.port p).state = .active ↔ s.awake p = true) ∧
      (s.sync.port p).waiting = (s.port p).waiting ∧ (s.sync.port p).txErrors = (s.port p).txErrors ∧
      (s.sync.port p).rxErrors = (s.port p).rxErrors ∧
      (s.awake p = true ∨ (s.port p).state = .listen →
        (s.sync.port p).queue = (s.port p).queue ∧ (s.sync.port p).attempts = (s.port p).attempts ∧
        (s.sync.port p).attempt = (s.port p).attempt ∧ s.sync.counter p .txUndelivered = s.counter p .txUndelivered) ∧
      (s.awake p = false → (s.port p).state = .active →
        (s.sync.port p).queue = [] ∧ (s.sync.port p).attempts = 0 ∧
        ((s.port p).attempt ≠ .head →
          (s.sync.port p).attempt = (s.port p).attempt ∧
          s.sync.counter p .txUndelivered =
            max (s.counter p .txUndelivered) (min 65535 (s.counter p .txUndelivered + (s.port p).queue.length))) ∧
        (∀ (f : Frame) (rest : List Frame), (s.port p).attempt = .head → (s.port p).queue = f :: rest →
          (s.sync.port p).attempt = .completing f ∧
          s.sync.counter p .txUndelivered =
            max (s.counter p .txUndelivered) (min 65535 (s.counter p .txUndelivered + rest.length)))) ∧
      (s.prospects p = true → s.sync.counter p .holdDiscarded = s.counter p .holdDiscarded) ∧
      (s.prospects p = false →
        s.sync.counter p .holdDiscarded =
          max (s.counter p .holdDiscarded) (min 65535 (s.counter p .holdDiscarded + s.heldFor p))) ∧
      ∀ c : Counter, c ≠ .txUndelivered → c ≠ .holdDiscarded → s.sync.counter p c = s.counter p c

/-! ### Classification -/

/-- R40 to R48 and Table 3-2: the working record of a search is gathered, item by item, over the chain of the frame: the matching entries
of the active rule list up to and including the first without the continue flag. Then when an entry matches, and what each condition code
reads. -/
def Obligations.SearchGathersTheChain : Prop :=
  (∀ (s : State) (src : PortId) (f : Frame) (chain : List (Nat × RuleEntry)),
    chain = chainOf s src f (s.activeBank.entriesFrom listFuel 256 0) →
    (searchRules s src f).rule = chain.head?.map (fun x => x.1) ∧
    (searchRules s src f).blocked = chain.any (fun x => x.2.action == .block) ∧
    (searchRules s src f).hold = chain.any (fun x => x.2.hold) ∧
    (∀ q : PortId, (searchRules s src f).forward.getLsbD q = chain.any (fun x => x.2.forward.getLsbD q)) ∧
    (∀ g : GroupId, (searchRules s src f).wake.getLsbD g = chain.any (fun x => x.2.wake.getLsbD g)) ∧
    ((searchRules s src f).cls = none ↔ chain = []) ∧
    (∀ c : WakeClass, (searchRules s src f).cls = some c →
      (∃ x ∈ chain, x.2.cls = c) ∧ ∀ x ∈ chain, c ≤ x.2.cls) ∧
    (searchRules s src f).reports = (chain.filter (fun x => x.2.action == .report)).map (fun x => x.2.window)) ∧
  (∀ (s : State) (src : PortId) (f : Frame) (e : RuleEntry) (ref : PortSet),
    (∀ q : PortId, ref.getLsbD q = (e.forward.getLsbD q && q != src)) →
    (entryMatches s src f e = true ↔
      e.source.getLsbD src = true ∧ s.condition ref e.cond = true ∧
      (match f.ident with
        | .std id => e.ext = false ∧ ∀ b : Fin 11, e.idMask.getLsbD b = true → id.getLsbD b = e.id.getLsbD b
        | .ext id => e.ext = true ∧ ∀ b : Fin 29, e.idMask.getLsbD b = true → id.getLsbD b = e.id.getLsbD b) ∧
      e.minLen ≤ f.data.length ∧
      (e.winMask = 0 ∨ (e.window + 2 ≤ f.data.length ∧
        (∀ b : Fin 8, e.winMask.getLsbD (8 + b.val) = true →
          (f.data.getD e.window 0).getLsbD b = e.winVal.getLsbD (8 + b.val)) ∧
        ∀ b : Fin 8, e.winMask.getLsbD b = true → (f.data.getD (e.window + 1) 0).getLsbD b = e.winVal.getLsbD b)))) ∧
  (∀ (m : Memory) (pos : Nat) (e : RuleEntry), m.entryAt pos = .rule e → e.long = false →
    e.idMask = BitVec.allOnes 29 ∧ e.minLen = 0 ∧ e.winMask = 0) ∧
  (∀ (s : State) (ref : PortSet) (level : BudgetLevel),
    level = (if s.mode.mode = .unconfigured then .opened else s.charge.level) →
    s.condition ref 0 = true ∧
    (s.condition ref 1 = true ↔ s.mode.mode = .parked) ∧
    (s.condition ref 2 = true ↔ s.mode.mode = .drive) ∧
    (s.condition ref 3 = true ↔ level = .opened) ∧
    (s.condition ref 4 = true ↔ level = .opened ∨ level = .restricted) ∧
    (s.condition ref 5 = true ↔ level = .opened ∨ level = .restricted ∨ level = .essential) ∧
    (s.condition ref 6 = true ↔ level = .exhausted) ∧
    (s.condition ref 7 = true ↔ ∃ g : GroupId, (s.group g).state = .up) ∧
    (s.condition ref 8 = true ↔ ∀ p : PortId, ref.getLsbD p = true → s.awake p = true) ∧
    (s.condition ref 9 = true ↔ ∀ p : PortId, ref.getLsbD p = true → s.awake p = false) ∧
    (s.condition ref 10 = true ↔ s.hold.length < 36) ∧
    (s.condition ref 11 = true ↔ 36 ≤ s.hold.length) ∧
    (s.condition ref 12 = true ↔ s.lines.svc.level = true) ∧
    (s.condition ref 13 = true ↔ ∃ g : GroupId, (s.group g).state = .quarantined) ∧
    (s.condition ref 14 = true ↔ s.mode.parkSettle ≠ none) ∧
    s.condition ref 15 = false ∧
    ∀ k : GpiId, (s.condition ref (16 + 2 * k.val) = true ↔ (s.line (.gpi k)).level = true) ∧
      (s.condition ref (17 + 2 * k.val) = true ↔ (s.line (.gpi k)).level = false))

/-- R49: a search that ends with the block mark set, as one does whose chain holds a BLOCK entry in any position, drops the frame:
RX_BLOCKED of the source port counts, and nothing else changes. -/
def Obligations.BlockedFrameIsDropped : Prop :=
  ∀ (p : PortId) (s : State) (f : Frame), (s.port p).waiting = some f → s.mode.mode ≠ .unconfigured →
    ((searchRules s p f).blocked = true ∨
      ∃ x ∈ chainOf s p f (s.activeBank.entriesFrom listFuel 256 0), x.2.action = .block) →
    ∃ t : State, exec (.classification p) s = .next t ∧ OnlyPort p s t ∧ Counted .rxBlocked 1 (s.port p) (t.port p) ∧
      t.port p = { s.port p with waiting := none, counters := (t.port p).counters }

/-- R15, R16, R50: an unmatched frame goes by the default route, and in UNCONFIGURED a frame is offered to the awake ports after its
fallback request; in both, to each port but the source, in ascending order, each in the state that the one before it left. -/
def Obligations.UnmatchedFrameGoesByDefaultRoute : Prop :=
  ∀ (p : PortId) (s u : State) (f : Frame), (s.port p).waiting = some f →
    u = s.setPort p { s.port p with waiting := none } →
    (s.mode.mode ≠ .unconfigured → (searchRules s p f).blocked = false → (searchRules s p f).rule = none →
      exec (.classification p) s = .next ((destinations s.activeBank.defaultRoute p).foldl (routeTo f) u)) ∧
    (s.mode.mode = .unconfigured →
      exec (.classification p) s = .next ((destinations 0x1F p).foldl (fallbackTo f)
        (if s.mode.fb then u else
          (takeWake { set := 0xFF, cls := 0, cause := .frame, source := some (.port p), rule := none, ident := some f.ident } u).1))) ∧
    (∀ set : PortSet, (destinations set p).Pairwise (fun a b => a < b) ∧
      ∀ q : PortId, q ∈ destinations set p ↔ set.getLsbD q = true ∧ q ≠ p) ∧
    (∀ (v : State) (q : PortId),
      (v.awake q = true → v.hasHeld q = false → routeTo f v q = v.offer q f) ∧
      (v.awake q = true → v.hasHeld q = true → routeTo f v q = v.holdFrame q f none) ∧
      (v.awake q = false → routeTo f v q = v.count q .dropAsleep ∧ fallbackTo f v q = v) ∧
      (v.awake q = true → fallbackTo f v q = v.offer q f))

/-- R51 to R54, R56: a matched frame hands its reports, then its wake request, and is then forwarded to each port but the source in
ascending order by the first case of R54 that applies in the state that the port before it left; with an empty forward set only the first
two happen. -/
def Obligations.MatchedFrameIsAppliedInOrder : Prop :=
  ∀ (p : PortId) (s u : State) (f : Frame) (w : WorkingRecord) (index : Nat),
    (s.port p).waiting = some f → s.mode.mode ≠ .unconfigured → w = searchRules s p f → w.blocked = false →
    w.rule = some index →
    u = (takeWake { set := w.wake, cls := w.cls.getD 3, cause := .frame, source := some (.port p), rule := some index,
                    ident := some f.ident }
          (w.reports.foldl
            (fun t o => t.takeReport (if o + 2 ≤ f.data.length then some (dataWord f.data o).toNat else none))
            (s.setPort p { s.port p with waiting := none }))).1 →
    exec (.classification p) s = .next ((destinations w.forward p).foldl (forwardTo f w.hold (some index)) u) ∧
    (destinations w.forward p = [] → exec (.classification p) s = .next u) ∧
    (∀ (v : State) (q : PortId),
      (v.awake q = true → v.hasHeld q = false → forwardTo f w.hold (some index) v q = v.offer q f) ∧
      (v.hasHeld q = true → forwardTo f w.hold (some index) v q = v.holdFrame q f (some index)) ∧
      (v.awake q = false → v.hasHeld q = false → w.hold = true → v.groupComing q = true →
        forwardTo f w.hold (some index) v q = v.holdFrame q f (some index)) ∧
      (v.awake q = false → v.hasHeld q = false → (w.hold = false ∨ v.groupComing q = false) →
        forwardTo f w.hold (some index) v q = v.count q .dropAsleep))

/-- R128: a battery report lowers B_rem to 1000 V where that is less, moving the difference to cut, and announces exhaustion when B_rem
falls to 0; SHORT, 0xFFFF and reports outside PARKED are ignored. -/
def Obligations.BatteryReportLowersBudget : Prop :=
  ∀ (s : State) (v : Nat),
    s.takeReport none = s ∧ s.takeReport (some 0xFFFF) = s ∧ (s.mode.mode ≠ .parked → s.takeReport (some v) = s) ∧
    (s.mode.mode = .parked → s.charge.loaded = true → v ≠ 0xFFFF → s.charge.bRem ≤ v * 1000 →
      s.takeReport (some v) =
        { s with charge := { s.charge with level := levelOf s.charge.bRem s.charge.l2 s.charge.l3 } }) ∧
    (s.mode.mode = .parked → s.charge.loaded = true → v ≠ 0xFFFF → v ≠ 0 → v * 1000 < s.charge.bRem →
      s.takeReport (some v) =
        { s with charge := { s.charge with bRem := v * 1000, cut := s.charge.cut + (s.charge.bRem - v * 1000),
                                           level := levelOf (v * 1000) s.charge.l2 s.charge.l3 } }) ∧
    (s.mode.mode = .parked → s.charge.loaded = true → s.charge.bRem ≠ 0 →
      s.takeReport (some 0) =
        State.exhaust { s with charge := { s.charge with bRem := 0, cut := s.charge.cut + s.charge.bRem, level := .exhausted } })

/-! ### Hold queue -/

/-- R64, R67: the front of a port's held run moves to the tail of an ACTIVE port's transmit queue that has room; an entry whose deadline
passes is removed and counts in HOLD_EXPIRED (log 2 for the time that passes, log 14); otherwise nothing happens (log 3). -/
def Obligations.HoldEntriesAreReleasedOrExpire : Prop :=
  (∀ (p : PortId) (s : State) (before after : List HoldEntry) (e : HoldEntry), s.hold = before ++ e :: after → e.dest = p →
    (∀ x ∈ before, x.dest ≠ p) → (s.port p).state = .active → (s.port p).queue.length < 16 →
    ∃ t : State, exec (.holdRelease p) s = .next t ∧ t = { s with hold := before ++ after, ports := t.ports } ∧
      (∀ q : PortId, q ≠ p → t.port q = s.port q) ∧
      t.port p = { s.port p with queue := (s.port p).queue ++ [e.frame] }) ∧
  (∀ (p : PortId) (s : State), (s.port p).state = .listen ∨ 16 ≤ (s.port p).queue.length ∨ (∀ e ∈ s.hold, e.dest ≠ p) →
    exec (.holdRelease p) s = .next s) ∧
  (∀ (i : Fin 48) (s : State) (e : HoldEntry), s.hold[i.val]? = some e →
    ∃ t : State, exec (.holdExpiry i) s = .next t ∧
      t = { s.elapse e.remaining with hold := (s.elapse e.remaining).hold.eraseIdx i.val, ports := t.ports } ∧
      (∀ q : PortId, q ≠ e.dest → t.port q = s.port q) ∧ Counted .holdExpired 1 (s.port e.dest) (t.port e.dest) ∧
      t.port e.dest = { s.port e.dest with counters := (t.port e.dest).counters }) ∧
  (∀ (i : Fin 48) (s : State), s.hold.length ≤ i.val → exec (.holdExpiry i) s = .next s)

/-! ### Groups -/

/-- R78, R79, R80, R82: power-good asserted in WAIT, or the end of the delay, takes a POWERING group into RELEASING. That entry sets the
settle time and the watch by the power-good mode found there; with the watch on and PGk negated the group is in FAULT at once, with a
settle time of 0 it is UP at once (log 2, log 12). -/
def Obligations.PowerGoodTakesGroupToReleasing : Prop :=
  (∀ (g : GroupId) (s : State) (n : Nat), (s.group g).state = .powering →
    ((s.group g).timer = .powerGoodWait n →
      exec (.powerGoodAsserted g) s = .next (enterReleasing g { s with pg := s.pg ||| (1#8 <<< g.val) })) ∧
    ((s.group g).timer = .powerGoodDelay n → exec (.powerGoodDelayExpiry g) s = .next (enterReleasing g (s.elapse n)))) ∧
  (∀ (g : GroupId) (u v : State),
    v = u.changeGroup g { u.group g with state := .releasing, timer := .settle (u.params g).settle,
                                         watch := decide ((u.params g).pgMode = .wait) } →
    ((u.params g).pgMode = .wait → u.pg.getLsbD g = false →
      enterReleasing g u =
        { v.changeGroup g { u.group g with state := .fault, timer := .stopped, grantClass := none, watch := false,
                                           lastFault := some .pgLost, faultGuard := 0 } with
          history := u.history.push (PlainRecord .fault g .supervision none (some .pgLost) u) }) ∧
    (((u.params g).pgMode = .wait → u.pg.getLsbD g = true) → (u.params g).settle ≠ 0 → enterReleasing g u = v) ∧
    (((u.params g).pgMode = .wait → u.pg.getLsbD g = true) → (u.params g).settle = 0 →
      enterReleasing g u = v.changeGroup g
        { v.group g with
          state := .up
          timer :=
            (if (u.mode.mode = .drive ∧ (u.params g).driveForced = true) ∨ (u.mode.mode = .unconfigured ∧ u.mode.fb = true) then
              .stopped
            else .linger (u.params g).tmin) }))

/-- R77, R78, R79, R82: power-good timeout, loss of power-good under the watch and a power fault take the group to FAULT with outputs
off, its cause, and a FAULT record; a power fault outside the supply-on states is ignored (log 2, log 12, log 13). -/
def Obligations.FaultsSwitchTheGroupOff : Prop :=
  ∀ (g : GroupId) (s u : State) (n : Nat) (c : Instr) (cause : FaultCause),
    ((c = .powerGoodTimeout g ∧ cause = .pgTimeout ∧ (s.group g).state = .powering ∧ (s.group g).timer = .powerGoodWait n ∧
        u = s.elapse n) ∨
      (c = .powerGoodLost g ∧ cause = .pgLost ∧ ((s.group g).state = .releasing ∨ (s.group g).state = .up) ∧
        (s.group g).watch = true ∧ u = { s with pg := s.pg &&& ~~~(1#8 <<< g.val) }) ∨
      (c = .powerFault g ∧ cause = .powerFault ∧
        ((s.group g).state = .powering ∨ (s.group g).state = .releasing ∨ (s.group g).state = .up ∨ (s.group g).state = .draining) ∧
        u = s.elapse (s.group g).faultGuard) →
      exec c s = .next
        { u.changeGroup g { u.group g with state := .fault, timer := .stopped, grantClass := none, watch := false,
                                           lastFault := some cause, faultGuard := 0 } with
          history := s.history.push (PlainRecord .fault g .supervision none (some cause) s) }) ∧
    ((s.group g).state = .off ∨ (s.group g).state = .fault ∨ (s.group g).state = .quarantined →
      exec (.powerFault g) s = .next s)

/-- R79, R80, R81: the settle timer takes a group to UP with its linger suspended or running, the linger timer to DRAINING (and on to OFF
with a drain of 0), the drain timer to OFF (log 2 for the time that passes). -/
def Obligations.SequenceTimersMoveTheGroupOn : Prop :=
  ∀ (g : GroupId) (s : State) (n : Nat),
    ((s.group g).state = .releasing → (s.group g).timer = .settle n →
      exec (.settleExpiry g) s = .next ((s.elapse n).changeGroup g
        { (s.elapse n).group g with
          state := .up
          timer :=
            (if (s.mode.mode = .drive ∧ (s.params g).driveForced = true) ∨ (s.mode.mode = .unconfigured ∧ s.mode.fb = true) then
              .stopped
            else .linger (s.params g).tmin) })) ∧
    ((s.group g).state = .up → (s.group g).timer = .linger n → (s.params g).drain ≠ 0 →
      exec (.lingerExpiry g) s = .next ((s.elapse n).changeGroup g
        { (s.elapse n).group g with state := .draining, timer := .drain (s.params g).drain })) ∧
    ((s.group g).state = .up → (s.group g).timer = .linger n → (s.params g).drain = 0 →
      ∃ t : State, exec (.lingerExpiry g) s = .next t ∧ t = { s.elapse n with groups := t.groups, ports := t.ports, hold := t.hold } ∧
        PortsFollow (s.elapse n) t ∧
        t.group g = { (s.elapse n).group g with state := .off, timer := .stopped, grantClass := none, watch := false, faultGuard := 0 } ∧
        ∀ h : GroupId, h ≠ g → t.group h = (s.elapse n).group h) ∧
    ((s.group g).state = .draining → (s.group g).timer = .drain n →
      exec (.drainExpiry g) s = .next ((s.elapse n).changeGroup g
        { (s.elapse n).group g with state := .off, timer := .stopped, grantClass := none, watch := false, faultGuard := 0 }))

/-- R75, R84: a request for a group that is not present does nothing; in FAULT and QUARANTINED it is refused with a record and changes
nothing else, whatever its class. -/
def Obligations.WakeIsRefusedInFaultAndQuarantine : Prop :=
  ∀ (r : WakeRequest) (g : GroupId) (s : State),
    ((s.params g).present = false → takeWakeGroup r g s = (s, false)) ∧
    ((s.params g).present = true → (s.group g).state = .fault →
      takeWakeGroup r g s = ({ s with history := s.history.push (RequestRecord .refusedFault g r s) }, true)) ∧
    ((s.params g).present = true → (s.group g).state = .quarantined →
      takeWakeGroup r g s = ({ s with history := s.history.push (RequestRecord .refusedQuarantine g r s) }, true))

/-- R85, R89, R119, R132, R134: a request for a present group in OFF: at the storm limit it quarantines, else the grant test of PARKED
decides; a grant enters POWERING, and in PARKED counts and adds inrush. In WAIT mode with PGk already asserted the group goes on into
RELEASING at once (R78, log 12), which PowerGoodTakesGroupToReleasing states; the fault guard is log 13. -/
def Obligations.WakeFromOffMeetsStormThenBudget : Prop :=
  ∀ (r : WakeRequest) (g : GroupId) (s : State), (s.params g).present = true → (s.group g).state = .off →
    (s.mode.mode = .parked → s.activeBank.stormLimit ≤ (s.stormOf g).count →
      takeWakeGroup r g s =
        ({ (s.setStorm g { s.stormOf g with
              window := none
              quarantine := if s.activeBank.quarantineTime = 0 then none else some (s.activeBank.quarantineTime * 60000) }).changeGroup g
            { s.group g with state := .quarantined, timer := .stopped, grantClass := none, watch := false, faultGuard := 0 } with
            history := s.history.push (RequestRecord .quarantined g r s) }, true)) ∧
    (s.mode.mode = .parked → (s.stormOf g).count < s.activeBank.stormLimit →
      s.grants r.cls ((s.params g).inrush + costFromUp (s.params g)) = false →
      takeWakeGroup r g s = ({ s with history := s.history.push (RequestRecord .refusedBudget g r s) }, true)) ∧
    (∀ v w : State,
      v = s.changeGroup g
        { s.group g with
          state := .powering
          timer := (match (s.params g).pgMode with
            | .wait => .powerGoodWait (s.params g).pgTimeout
            | .delay ms => .powerGoodDelay ms)
          grantClass := some r.cls, watch := false, faultGuard := 1 } →
      w = (if (s.params g).pgMode = .wait ∧ s.pg.getLsbD g = true then enterReleasing g v else v) →
      (s.mode.mode = .parked → (s.stormOf g).count < s.activeBank.stormLimit →
        s.grants r.cls ((s.params g).inrush + costFromUp (s.params g)) = true →
        takeWakeGroup r g s =
          ({ w.setStorm g
                { s.stormOf g with
                  count := (s.stormOf g).count + 1
                  window := if (s.stormOf g).count = 0 then some (s.activeBank.stormWindow * 1000) else (s.stormOf g).window } with
              charge := { s.charge with inrush := max s.charge.inrush (min 2040 (s.charge.inrush + (s.params g).inrush)) }
              history := s.history.push (RequestRecord .granted g r s) }, false)) ∧
      (s.mode.mode ≠ .parked →
        takeWakeGroup r g s = ({ w with history := s.history.push (RequestRecord .granted g r s) }, false)))

/-- R86: a request for a group in POWERING or RELEASING lowers its grant class and does nothing else: no test, no record, no change of
timer, outputs or storm count, no inrush; a group brought to class 0 is not forced by exhaustion. -/
def Obligations.WakeOnTheWayUpOnlyLowersClass : Prop :=
  ∀ (r : WakeRequest) (g : GroupId) (s : State) (c : WakeClass), (s.params g).present = true →
    (s.group g).state = .powering ∨ (s.group g).state = .releasing → (s.group g).grantClass = some c →
    takeWakeGroup r g s = (s.setGroup g { s.group g with grantClass := some (if r.cls < c then r.cls else c) }, false) ∧
    (∀ h : GroupId, h ≠ g → (takeWakeGroup r g s).1.group h = s.group h) ∧
    (r.cls = 0 → forceGroup (takeWakeGroup r g s).1 g = (takeWakeGroup r g s).1)

/-- R87, R88: a granted request in UP lowers the class and restarts a running linger, and in DRAINING takes the group back to RELEASING; a
refused one changes nothing, with a REFUSED_BUDGET record in DRAINING alone. What the entry into RELEASING does, with PGk at either level
and any settle time, is stated in PowerGoodTakesGroupToReleasing (log 12). -/
def Obligations.WakeInUpAndDraining : Prop :=
  ∀ (r : WakeRequest) (g : GroupId) (s : State) (c : WakeClass), (s.params g).present = true → (s.group g).grantClass = some c →
    ((s.group g).state = .up → s.grants r.cls (costFromUp (s.params g)) = false → takeWakeGroup r g s = (s, true)) ∧
    ((s.group g).state = .up → s.grants r.cls (costFromUp (s.params g)) = true → (s.group g).timer = .stopped →
      takeWakeGroup r g s = (s.setGroup g { s.group g with grantClass := some (min c r.cls) }, false)) ∧
    (∀ n : Nat, (s.group g).state = .up → s.grants r.cls (costFromUp (s.params g)) = true → (s.group g).timer = .linger n →
      takeWakeGroup r g s =
        (s.setGroup g { s.group g with grantClass := some (min c r.cls), timer := .linger (s.params g).tmin }, false)) ∧
    ((s.group g).state = .draining → s.grants r.cls (costFromUp (s.params g)) = false →
      takeWakeGroup r g s = ({ s with history := s.history.push (RequestRecord .refusedBudget g r s) }, true)) ∧
    ((s.group g).state = .draining → s.grants r.cls (costFromUp (s.params g)) = true →
      takeWakeGroup r g s = (enterReleasing g (s.setGroup g { s.group g with grantClass := some (min c r.cls) }), false))

/-- R92: exhaustion takes every group of class 1 to 3 from POWERING to OFF and from RELEASING or UP to DRAINING, with a FORCED_DRAIN
record each, in ascending order; every other group, and every block but ports and hold queue, stays as it is. -/
def Obligations.ExhaustionForcesLowClasses : Prop :=
  ∀ s : State,
    s.exhaust = { s with groups := s.exhaust.groups, ports := s.exhaust.ports, hold := s.exhaust.hold, history := s.exhaust.history } ∧
    PortsFollow s s.exhaust ∧
    s.exhaust.history =
      (allGroups.filter (fun g => lowClass (s.group g) &&
        ((s.group g).state == .powering || (s.group g).state == .releasing || (s.group g).state == .up))).foldl
        (fun h g => h.push (PlainRecord .forcedDrain g .supervision none none s)) s.history ∧
    ∀ g : GroupId,
      (lowClass (s.group g) = true → (s.group g).state = .powering →
        s.exhaust.group g =
          { s.group g with state := .off, timer := .stopped, grantClass := none, watch := false, faultGuard := 0 }) ∧
      (lowClass (s.group g) = true → ((s.group g).state = .releasing ∨ (s.group g).state = .up) → (s.params g).drain ≠ 0 →
        s.exhaust.group g = { s.group g with state := .draining, timer := .drain (s.params g).drain }) ∧
      (lowClass (s.group g) = true → ((s.group g).state = .releasing ∨ (s.group g).state = .up) → (s.params g).drain = 0 →
        s.exhaust.group g =
          { s.group g with state := .off, timer := .stopped, grantClass := none, watch := false, faultGuard := 0 }) ∧
      (lowClass (s.group g) = false ∨ (s.group g).state = .draining ∨ (s.group g).state = .off ∨ (s.group g).state = .fault ∨
          (s.group g).state = .quarantined →
        s.exhaust.group g = s.group g)

/-! ### Time, charge, storm -/

/-- R118 and the timers' conventions: `n` ms take `n` from every running timer, from every hold deadline and from what is left
of the second, of a fault guard and of a verification or copy in flight, change no other item, and in PARKED add to the
drawing time of each group whose supply is on, within the running interval (log 1, log 2, log 13, log 14, log 19). -/
def Obligations.TimePassesForTimersAndDraw : Prop :=
  ∀ (n : Nat) (s : State),
    s.elapse 0 = { s with charge := (s.elapse 0).charge } ∧
    (s.elapse n).ports = s.ports ∧ (s.elapse n).store = s.store ∧ (s.elapse n).pg = s.pg ∧ (s.elapse n).history = s.history ∧
    (s.elapse n).pending = s.pending ∧
    (s.elapse n).mode =
      { s.mode with secondLeft := s.mode.secondLeft - n, parkSettle := s.mode.parkSettle.map (fun ms => ms - n) } ∧
    (s.elapse n).agent =
      { s.agent with linger := s.agent.linger.map (fun ms => ms - n), opLeft := s.agent.opLeft.map (fun ms => ms - n) } ∧
    (∀ l : InputLine, (s.elapse n).line l = { s.line l with debounce := (s.line l).debounce.map (fun ms => ms - n) }) ∧
    (s.elapse n).hold = s.hold.map (fun e => { e with remaining := e.remaining - n }) ∧
    (∀ g : GroupId, ((s.elapse n).group g).state = (s.group g).state ∧
      ((s.elapse n).group g).grantClass = (s.group g).grantClass ∧ ((s.elapse n).group g).watch = (s.group g).watch ∧
      ((s.elapse n).group g).lastFault = (s.group g).lastFault ∧ ((s.elapse n).group g).faultGuard = (s.group g).faultGuard - n ∧
      (∀ ms : Nat, (s.group g).timer = .linger ms → ((s.elapse n).group g).timer = .linger (ms - n)) ∧
      (∀ ms : Nat, (s.group g).timer = .powerGoodWait ms → ((s.elapse n).group g).timer = .powerGoodWait (ms - n)) ∧
      (∀ ms : Nat, (s.group g).timer = .powerGoodDelay ms → ((s.elapse n).group g).timer = .powerGoodDelay (ms - n)) ∧
      (∀ ms : Nat, (s.group g).timer = .settle ms → ((s.elapse n).group g).timer = .settle (ms - n)) ∧
      (∀ ms : Nat, (s.group g).timer = .drain ms → ((s.elapse n).group g).timer = .drain (ms - n)) ∧
      ((s.group g).timer = .stopped → ((s.elapse n).group g).timer = .stopped)) ∧
    (∀ g : GroupId, (s.elapse n).stormOf g =
      { s.stormOf g with window := (s.stormOf g).window.map (fun ms => ms - n),
                         quarantine := (s.stormOf g).quarantine.map (fun ms => ms - n) }) ∧
    (∀ (g : GroupId) (left : Nat), s.mode.mode = .parked → s.charge.timer = some left → n ≤ left →
      (s.elapse n).charge.drawn.get g =
        if (s.group g).state = .powering ∨ (s.group g).state = .releasing ∨ (s.group g).state = .up ∨ (s.group g).state = .draining then
          max (s.charge.drawn.get g) (min 1000 (s.charge.drawn.get g + n))
        else s.charge.drawn.get g) ∧
    (s.mode.mode ≠ .parked → ∀ g : GroupId, (s.elapse n).charge.drawn.get g = s.charge.drawn.get g) ∧
    (s.elapse n).charge = { s.charge with drawn := (s.elapse n).charge.drawn, timer := s.charge.timer.map (fun ms => ms - n) }

/-- R120, R121, R125: a settlement debits the drawn charge and the inrush from B_rem, the rest going to shortfall, keeps the remainder in
carry, recomputes the level and restarts the timer; exhaustion is announced when B_rem falls to 0, and not again (log 2). -/
def Obligations.SettlementDebitsTheInterval : Prop :=
  ∀ (s u : State) (left total debit : Nat) (a : ChargeAccount),
    s.mode.mode = .parked → s.charge.timer = some left → s.charge.loaded = true → u = s.elapse left →
    total = s.activeBank.baseDraw * 1000
      + (allGroups.map (fun g => (s.activeBank.groupRecord g).draw * u.charge.drawn.get g)).sum + s.charge.carry →
    debit = total / 1000 + s.charge.inrush →
    a = { s.charge with
          carry := total % 1000, bRem := s.charge.bRem - min debit s.charge.bRem,
          spent := s.charge.spent + min debit s.charge.bRem,
          shortfall := max s.charge.shortfall (min 4294967295 (s.charge.shortfall + (debit - min debit s.charge.bRem))),
          drawn := #v[0, 0, 0, 0, 0, 0, 0, 0], inrush := 0,
          level := levelOf (s.charge.bRem - min debit s.charge.bRem) s.charge.l2 s.charge.l3, timer := some 1000 } →
    (debit < s.charge.bRem ∨ s.charge.bRem = 0 → exec .settlement s = .next { u with charge := a }) ∧
    (s.charge.bRem ≠ 0 → s.charge.bRem ≤ debit → exec .settlement s = .next (State.exhaust { u with charge := a }))

/-- R133, R136: a window that runs out clears the storm count and nothing else; a quarantine timer that runs out takes the group to OFF
with a clear storm record and a QUARANTINE_END record (log 2 for the time that passes). That a window expiry with no window running
changes nothing is the model's choice (log 3). -/
def Obligations.StormTimersRunOut : Prop :=
  ∀ (g : GroupId) (s : State) (n : Nat),
    ((s.stormOf g).window = some n →
      exec (.windowExpiry g) s = .next ((s.elapse n).setStorm g { (s.elapse n).stormOf g with count := 0, window := none })) ∧
    ((s.stormOf g).window = none → exec (.windowExpiry g) s = .next s) ∧
    ((s.group g).state = .quarantined → (s.stormOf g).quarantine = some n →
      exec (.quarantineExpiry g) s = .next
        { ((s.elapse n).setStorm g { count := 0, window := none, quarantine := none }).changeGroup g
            { (s.elapse n).group g with state := .off, timer := .stopped, grantClass := none, watch := false, faultGuard := 0 } with
          history := s.history.push (PlainRecord .quarantineEnd g .supervision none none s) })

/-- R106, R108, R148: the mode time counts full seconds up to its maximum; the park-settle timer stops when it runs out; the management
linger timer stops when it runs out and the awakeness of port 0 follows (log 2 for the time that passes). That an expiry with no timer
running changes nothing is the model's choice (log 3). -/
def Obligations.ModeClockAndLingerRunOut : Prop :=
  ∀ (s u : State),
    (u = s.elapse s.mode.secondLeft →
      exec .modeTimeTick s = .next
        { u with mode := { u.mode with secondLeft := 1000,
                                       modeTime := if s.mode.modeTime < 4294967295 then s.mode.modeTime + 1 else s.mode.modeTime } }) ∧
    (∀ n : Nat, s.mode.parkSettle = some n → u = s.elapse n →
      exec .parkSettleExpiry s = .next { u with mode := { u.mode with parkSettle := none } }) ∧
    (s.mode.parkSettle = none → exec .parkSettleExpiry s = .next s) ∧
    (∀ n : Nat, s.agent.linger = some n → u = s.elapse n →
      exec .mgmtLingerExpiry s = .next (State.sync { u with agent := { u.agent with linger := none } })) ∧
    (s.agent.linger = none → exec .mgmtLingerExpiry s = .next s)

/-- R126, R127: the cost of a wake is the draw over Tmin rounded up to whole mAs, from OFF with the inrush charge added, within the
stated bounds; in PARKED class 0 is always granted, another class c when B_rem is above 0 and at least cost + L_c; elsewhere all. -/
def Obligations.CostAndGrantTest : Prop :=
  (∀ (m : Memory) (g : GroupId),
    (m.groupRecord g).draw * (m.groupRecord g).tmin ≤ 1000 * costFromUp (m.groupRecord g) ∧
    1000 * costFromUp (m.groupRecord g) < (m.groupRecord g).draw * (m.groupRecord g).tmin + 1000 ∧
    costFromOff (m.groupRecord g) = (m.groupRecord g).inrush + costFromUp (m.groupRecord g) ∧
    costFromUp (m.groupRecord g) ≤ 245700 ∧ costFromOff (m.groupRecord g) ≤ 245955) ∧
  (∀ (s : State) (cost : Nat), s.mode.mode = .parked →
    s.grants 0 cost = true ∧
    (s.grants 1 cost = true ↔ 0 < s.charge.bRem ∧ cost + s.charge.l1 ≤ s.charge.bRem) ∧
    (s.grants 2 cost = true ↔ 0 < s.charge.bRem ∧ cost + s.charge.l2 ≤ s.charge.bRem) ∧
    (s.grants 3 cost = true ↔ 0 < s.charge.bRem ∧ cost + s.charge.l3 ≤ s.charge.bRem)) ∧
  (∀ (s : State) (c : WakeClass) (cost : Nat), s.mode.mode ≠ .parked → s.grants c cost = true)

/-- R140: a record is added as the newest; with 32 held the oldest goes and the overwrite count rises, stopping at 65535. -/
def Obligations.HistoryOverwritesTheOldest : Prop :=
  ∀ (h : WakeHistory) (r : WakeRecord),
    (h.records.length < 32 → h.push r = { records := r :: h.records, overwrites := h.overwrites }) ∧
    (h.records.length = 32 → h.overwrites ≤ 65535 →
      h.push r = { records := r :: h.records.dropLast,
                   overwrites := if h.overwrites < 65535 then h.overwrites + 1 else h.overwrites })

/-! ### Verification, copy and swap -/

/-- R29, R30, R37: the end of a verification sets the standby state and the verify fault record by its result; the end of a copy makes
the standby bank the active bank's copy and VERIFIED; both leave the agent IDLE and the rest as it is (log 3, log 19). -/
def Obligations.VerificationAndCopyComplete : Prop :=
  (∀ s : State, s.agent.state = .verifying → verifyBank s.store.standbyBank = none →
    exec .verificationComplete s = .next
      { s with store := { s.store with standby := .verified, verifyFault := none },
               agent := { s.agent with state := .idle, opLeft := none } }) ∧
  (∀ (s : State) (x : VerifyFault), s.agent.state = .verifying → verifyBank s.store.standbyBank = some x →
    exec .verificationComplete s = .next
      { s with store := { s.store with standby := .rejected, verifyFault := some x },
               agent := { s.agent with state := .idle, opLeft := none } }) ∧
  (∀ s : State, s.agent.state = .copying →
    ∃ t : State, exec .copyComplete s = .next t ∧
      t = { s with store := t.store, agent := { s.agent with state := .idle, opLeft := none } } ∧
      t.store.standbyBank = s.activeBank ∧ t.activeBank = s.activeBank ∧ t.store.activeIsOne = s.store.activeIsOne ∧
      t.store.standby = .verified ∧ t.store.verifyFault = s.store.verifyFault ∧ t.store.lockPages = s.store.lockPages) ∧
  (∀ s : State, (s.agent.state ≠ .verifying → exec .verificationComplete s = .next s) ∧
    (s.agent.state ≠ .copying → exec .copyComplete s = .next s))

/-- R25, R29: verification finds no fault exactly in the banks with the bank mark, ports 0 to 4 in the present group records, no absent
group named, and a rule list of at most 200 sound entries that ends with END inside the bank. -/
def Obligations.VerificationPassesExactlySoundBanks : Prop :=
  ∀ m : Memory, verifyBank m = none ↔
    m.u16 0 = 0x5734 ∧
    (∀ g : GroupId, m.present g = true → (m.read (32 + 12 * g.val + 1)).toNat ≤ 4) ∧
    (∀ k g : GroupId, (m.lineRecord k).wake.getLsbD g = true → m.present g = true) ∧
    (m.entriesFrom listFuel 256 0).length ≤ 200 ∧
    (∀ x ∈ m.entriesFrom listFuel 256 0,
      (x.2.long = true → x.2.window ≤ 6 ∧ x.2.minLen ≤ 8) ∧
      (x.2.action = .report → x.2.long = true ∧ x.2.wake = 0) ∧
      ∀ g : GroupId, x.2.wake.getLsbD g = true → m.present g = true) ∧
    (∃ pos : Nat, pos = 256 + ((m.entriesFrom listFuel 256 0).map (fun x => x.2.bytes)).sum ∧ pos + 8 ≤ 2048 ∧
      m.entryAt pos = .last)

/-- R33 to R36, R93, R94, R99, R107, R116, R123, R157: a SWAP that passes the gate with the agent IDLE and the standby bank VERIFIED
exchanges the banks, starts the copy, recomputes thresholds and level, lowers storm counts to the new limit and takes absent groups to
OFF. A later swap keeps the mode and the budget, and in DRIVE takes up the groups that become drive-forced, whatever state they stand in. At
the first one the present groups keep state, class and timers, a linger suspended by FALLBACK-AWAKE starts, and the entry that the IGN level
names follows: DRIVE keeps the account, PARKED loads it (log 11, log 12, log 13, log 15). -/
def Obligations.SwapTakesTheNewTable : Prop :=
  ∀ (args : List Byte) (r s u : State) (n : Memory) (keep : GroupId → Group),
    s = r.requestArrives (0x12 :: args) → u = beginRequest s →
    args.length ≤ 7 → s.extendedOpen → s.agent.state = .idle → s.store.standby = .verified → n = s.store.standbyBank →
    (∀ g : GroupId, keep g =
      if n.present g = false then offChannel (s.group g)
      else if s.mode.configured = false ∧ s.mode.fb = true ∧ (s.group g).state = .up ∧ (s.group g).timer = .stopped then
        { s.group g with timer := .linger (n.groupRecord g).tmin }
      else s.group g) →
    ∃ t : State, exec (.swap args) r = .next (t.answered [0x12, 0, byteOf (modeCode t.mode.mode), 0, 0, 0, 0, 0]) ∧
      t.activeBank = n ∧ t.store.standbyBank = s.activeBank ∧ t.store.standby = .dirty ∧
      t.store.verifyFault = s.store.verifyFault ∧ t.store.lockPages = s.store.lockPages ∧
      t.agent = { u.agent with state := .copying, opLeft := some 4 } ∧ t.lines = s.lines ∧ t.pg = s.pg ∧ PortsFollow u t ∧
      t.mode.configured = true ∧
      (∀ g : GroupId, n.present g = false →
        t.group g = offChannel (s.group g) ∧ t.stormOf g = { count := 0, window := none, quarantine := none }) ∧
      (s.mode.configured = true →
        t.mode = s.mode ∧
        t.charge =
          { s.charge with
            l1 := s.charge.pActive * n.q1 / 65536, l2 := s.charge.pActive * n.q2 / 65536, l3 := s.charge.pActive * n.q3 / 65536,
            level := (if s.charge.loaded then
                levelOf s.charge.bRem (s.charge.pActive * n.q2 / 65536) (s.charge.pActive * n.q3 / 65536)
              else s.charge.level) } ∧
        (∀ g : GroupId, n.present g = true →
          t.stormOf g = { s.stormOf g with count := min (s.stormOf g).count n.stormLimit }) ∧
        (s.mode.mode ≠ .drive → t.history = s.history ∧ ∀ g : GroupId, n.present g = true → t.group g = s.group g) ∧
        (s.mode.mode = .drive →
          (∀ g : GroupId, n.present g = true →
            ((s.activeBank.groupRecord g).driveForced = (n.groupRecord g).driveForced → t.group g = s.group g) ∧
            ((s.activeBank.groupRecord g).driveForced = true → (n.groupRecord g).driveForced = false →
              t.group g =
                if (s.group g).state = .up ∧ (s.group g).timer = .stopped then
                  { s.group g with timer := .linger (n.groupRecord g).tmin }
                else s.group g) ∧
            ((s.activeBank.groupRecord g).driveForced = false → (n.groupRecord g).driveForced = true →
              t.group g = forcedChannel (n.groupRecord g) (s.pg.getLsbD g) (s.group g))) ∧
          t.history = s.history.pushAll
            ((allGroups.filter (fun g => !(s.activeBank.groupRecord g).driveForced && (n.groupRecord g).driveForced)).filterMap
              (fun g => forcedRecord (n.groupRecord g) (s.pg.getLsbD g) (s.group g) g t)))) ∧
      (s.mode.configured = false → s.lines.ign.level = true →
        t.mode = { s.mode with mode := .drive, modeTime := 0, secondLeft := 1000, parkSettle := none, configured := true } ∧
        (s.mode.mode = .unconfigured →
          t.charge =
            { s.charge with
              l1 := s.charge.pActive * n.q1 / 65536, l2 := s.charge.pActive * n.q2 / 65536, l3 := s.charge.pActive * n.q3 / 65536,
              level := (if s.charge.loaded then
                  levelOf s.charge.bRem (s.charge.pActive * n.q2 / 65536) (s.charge.pActive * n.q3 / 65536)
                else s.charge.level) }) ∧
        (∀ g : GroupId, t.stormOf g = { count := 0, window := none, quarantine := none }) ∧
        (∀ g : GroupId, t.group g =
          if (n.groupRecord g).driveForced then
            forcedChannel (n.groupRecord g) (s.pg.getLsbD g) (enteringChannel (keep g))
          else enteringChannel (keep g)) ∧
        t.history = s.history.pushAll
          ((allGroups.filter (fun g => (n.groupRecord g).driveForced)).filterMap
            (fun g => forcedRecord (n.groupRecord g) (s.pg.getLsbD g) (enteringChannel (keep g)) g t))) ∧
      (s.mode.configured = false → s.lines.ign.level = false →
        t.mode = { s.mode with mode := .parked, modeTime := 0, secondLeft := 1000, parkSettle := some (n.parkSettle * 1000),
                               configured := true } ∧
        t.charge =
          { loaded := true, pActive := n.parkBudget, bRem := n.parkBudget, spent := 0, cut := 0, shortfall := 0, carry := 0,
            drawn := #v[0, 0, 0, 0, 0, 0, 0, 0], inrush := 0, l1 := n.parkBudget * n.q1 / 65536,
            l2 := n.parkBudget * n.q2 / 65536, l3 := n.parkBudget * n.q3 / 65536,
            level := levelOf n.parkBudget (n.parkBudget * n.q2 / 65536) (n.parkBudget * n.q3 / 65536), timer := some 1000 } ∧
        (∀ g : GroupId, (t.stormOf g).count = 0 ∧ (t.stormOf g).window = none) ∧
        (∀ g : GroupId, t.group g = parkedChannel (n.groupRecord g) (decide (n.parkBudget = 0)) (keep g)) ∧
        t.history = s.history.pushAll (if n.parkBudget = 0 then drainRecords keep t else []))

/-! ### Management requests -/

/-- R39, R146 to R150: what waits at port 0 is taken before a request whose frame comes after it. Taking a request starts the management
linger timer, which makes port 0 ACTIVE; a request that names no command, is too short, is gated or has an argument out of range is
answered so, in that order of checks, and has no other effect. The model's choice (log 11): the row of a request that does not wait acts
as if its frame had just been received. -/
def Obligations.RequestsAreTakenAndChecked : Prop :=
  (∀ (d : List Byte) (r : State),
    (r.agent.request = some d → r.requestArrives d = r) ∧
    (r.agent.request ≠ some d → r.requestArrives d = r.takeWaiting 0)) ∧
  (∀ (i : Instr) (d : List Byte) (r s : State), i.wellFormed = true → requestBytes i = some d → s = r.requestArrives d →
    exec i r = exec i { s with agent := { s.agent with request := some d } }) ∧
  (∀ s : State,
    (beginRequest s).agent =
      { s.agent with linger := some (max 500 (min (s.activeBank.u16 19) 10000)), request := none } ∧
    beginRequest s = { s with agent := (beginRequest s).agent, ports := (beginRequest s).ports, hold := (beginRequest s).hold } ∧
    ((beginRequest s).port 0).state = .active) ∧
  (∀ r : State, exec (.unknownCommand []) r = .next ((beginRequest (r.requestArrives [])).answered [0, 8, 0, 0, 0, 0, 0, 0])) ∧
  (∀ (c : Byte) (rest : List Byte) (r s : State), isCommandCode c = false → rest.length ≤ 7 →
    s = r.requestArrives (c :: rest) →
    exec (.unknownCommand (c :: rest)) r = .next ((beginRequest s).answered [c, 7, 0, 0, 0, 0, 0, 0])) ∧
  (∀ (i : Instr) (row : RequestRow) (r s : State), requestRow i = some row → row.args.length ≤ 7 →
    s = r.requestArrives (row.code :: row.args) →
    (row.args.length + 1 < row.minLen →
      exec i r = .next ((beginRequest s).answered [row.code, 8, 0, 0, 0, 0, 0, 0])) ∧
    (row.minLen ≤ row.args.length + 1 →
      ((row.extended = true ∧ ¬s.extendedOpen) ∨ (row.svcOnly = true ∧ s.lines.svc.level = false)) →
      exec i r = .next ((beginRequest s).answered [row.code, 3, 0, 0, 0, 0, 0, 0])) ∧
    (row.minLen ≤ row.args.length + 1 → (row.extended = true → s.extendedOpen) →
      (row.svcOnly = true → s.lines.svc.level = true) → row.inRange = false →
      exec i r = .next ((beginRequest s).answered [row.code, 6, 0, 0, 0, 0, 0, 0])))

/-- R74, R101, R130, R144, R159 to R162, R18, R165 and Tables 11-1, 11-9 and 11-10: the reading requests answer with the fields they name,
byte by byte, and change nothing else; READ-COUNTERS with the clear flag also sets the counters it read to 0 (log 11 for a request that
does not wait). -/
def Obligations.ReadingRequestsReport : Prop :=
  ∀ (r s u : State) (a : Byte) (rest : List Byte), rest.length ≤ 6 →
    (s = r.requestArrives (0x01 :: a :: rest) → u = beginRequest s →
      (a = 0 → exec (.status (a :: rest)) r = .next (u.answered
        [0x01, 0, byteOf (modeCode s.mode.mode * 64 + agentCode s.agent.state * 16 + standbyCode s.store.standby * 4
            + levelCode s.levelRead),
          byteOf (match s.store.verifyFault with
            | some x => verifyKindCode x.kind
            | none => 0),
          byteOf ((match s.store.verifyFault with
            | some x => x.offset
            | none => 0) / 256),
          byteOf (match s.store.verifyFault with
            | some x => x.offset
            | none => 0), 0, 0])) ∧
      (a = 1 → exec (.status (a :: rest)) r = .next (u.answered
        [0x01, 0, byteOf (s.store.lockPages.toNat / 256), byteOf s.store.lockPages.toNat,
          byteOf (s.mode.ma1.toNat * 16 + s.mode.ma0.toNat * 8 + s.mode.fb.toNat * 4 + s.lines.ign.level.toNat * 2
            + s.lines.svc.level.toNat),
          byteOf u.hold.length,
          (match u.hold with
            | e :: _ => byteOf e.dest.val
            | [] => 0xFF),
          (match u.hold.head?.bind (fun e => e.rule) with
            | some i => byteOf i
            | none => 0xFF)]))) ∧
    (s = r.requestArrives (0x02 :: a :: rest) → u = beginRequest s →
      (a = 0 → exec (.readBudget (a :: rest)) r = .next (u.answered
        ([0x02, 0] ++ bytes32 s.charge.bRem ++ [byteOf (levelCode s.levelRead), byteOf (modeCode s.mode.mode)]))) ∧
      (a = 1 → exec (.readBudget (a :: rest)) r = .next (u.answered ([0x02, 0] ++ bytes32 s.charge.pActive ++ [0, 0]))) ∧
      (a = 2 → exec (.readBudget (a :: rest)) r = .next (u.answered ([0x02, 0] ++ bytes32 s.charge.spent ++ [0, 0]))) ∧
      (a = 3 → exec (.readBudget (a :: rest)) r = .next (u.answered ([0x02, 0] ++ bytes32 s.charge.cut ++ [0, 0]))) ∧
      (a = 4 → exec (.readBudget (a :: rest)) r = .next (u.answered ([0x02, 0] ++ bytes32 s.charge.shortfall ++ [0, 0])))) ∧
    (∀ g : GroupId, a = byteOf g.val → s = r.requestArrives (0x03 :: a :: rest) → u = beginRequest s →
      exec (.readGroup (a :: rest)) r = .next (u.answered
        ([0x03, 0, byteOf (groupStateCode (s.group g).state),
          (match (s.group g).lastFault with
            | some x => byteOf (faultCode x)
            | none => 0),
          (match (s.group g).grantClass with
            | some c => byteOf c.val
            | none => 0xFF),
          byteOf (s.stormOf g).count] ++
          bytes16 (match (s.group g).timer, (s.group g).state with
            | .linger ms, _ => ms
            | .stopped, .up => 0xFFFE
            | _, _ => 0xFFFF)))) ∧
    (∀ (b : Byte) (more : List Byte), rest = b :: more → a.toNat ≤ 31 → b.toNat ≤ 3 →
      s = r.requestArrives (0x04 :: a :: rest) → u = beginRequest s →
      (∀ w : WakeRecord, s.history.records[a.toNat]? = some w →
        exec (.readHistory (a :: rest)) r = .next (u.answered
          ([0x04, 0] ++ (match b.toNat with
            | 0 => [byteOf (outcomeCode w.outcome), byteOf w.group.val, byteOf (modeCode w.mode),
                (match w.cls with
                  | some c => byteOf c.val
                  | none => 0xFF),
                byteOf (causeCode w.cause),
                (match w.source with
                  | some (.port p) => byteOf p.val
                  | some (.gpi k) => byteOf (0x10 + k.val)
                  | some .ign => 0x18
                  | none => 0xFF)]
            | 1 => [(match w.rule with
                  | some i => byteOf i
                  | none => 0xFF),
                (match w.faultCause with
                  | some x => byteOf (faultCode x)
                  | none => 0xFF)] ++
                (match w.ident with
                  | some (.std i) => bytes32 i.toNat
                  | some (.ext i) => bytes32 (0x80000000 + i.toNat)
                  | none => [0xFF, 0xFF, 0xFF, 0xFF])
            | 2 => bytes32 w.modeTime ++ [byteOf s.history.records.length, 0]
            | _ => bytes32 w.bRem ++ bytes16 s.history.overwrites)))) ∧
      (s.history.records.length ≤ a.toNat →
        exec (.readHistory (a :: rest)) r = .next (u.answered
          [0x04, 1, byteOf s.history.records.length, byteOf (s.history.overwrites / 256), byteOf s.history.overwrites, 0, 0, 0]))) ∧
    (∀ (p : PortId) (b flag : Byte) (more : List Byte) (first : Counter) (second : Option Counter), a = byteOf p.val →
      rest = b :: flag :: more →
      ((b = 0 ∧ first = .rxOk ∧ second = some .rxErr) ∨ (b = 1 ∧ first = .rxRemote ∧ second = some .rxBlocked) ∨
        (b = 2 ∧ first = .txOk ∧ second = some .txUndelivered) ∨ (b = 3 ∧ first = .dropQfull ∧ second = some .dropAsleep) ∨
        (b = 4 ∧ first = .holdOverflow ∧ second = some .holdExpired) ∨ (b = 5 ∧ first = .holdDiscarded ∧ second = none)) →
      s = r.requestArrives (0x05 :: a :: rest) → u = beginRequest s →
      ∃ v : State,
        exec (.readCounters (a :: rest)) r = .next (v.answered ([0x05, 0, a, b] ++ bytes16 (u.counter p first) ++
          bytes16 (match second with
            | some c => u.counter p c
            | none => 0))) ∧
        (flag = 0 → v = u) ∧
        (flag ≠ 0 → OnlyPort p u v ∧ v.port p = { u.port p with counters := (v.port p).counters } ∧
          ∀ c : Counter, v.counter p c = if c = first ∨ second = some c then 0 else u.counter p c)) ∧
    ([Mode.unconfigured, .drive, .parked].map modeCode = [0, 1, 2] ∧ [AgentState.idle, .verifying, .copying].map agentCode = [0, 1, 2] ∧
      [StandbyState.dirty, .verified, .rejected].map standbyCode = [0, 1, 2] ∧
      [BudgetLevel.opened, .restricted, .essential, .exhausted].map levelCode = [0, 1, 2, 3] ∧
      [VerifyKind.badMark, .badGroup, .badKind, .noEnd, .tooMany, .absentGroup, .badWindow, .badReport].map verifyKindCode
        = [1, 2, 3, 4, 5, 6, 7, 8] ∧
      [GroupState.off, .powering, .releasing, .up, .draining, .fault, .quarantined].map groupStateCode = [0, 1, 2, 3, 4, 5, 6] ∧
      [FaultCause.pgTimeout, .pgLost, .powerFault].map faultCode = [1, 2, 3] ∧
      [WakeOutcome.granted, .refusedBudget, .refusedFault, .refusedQuarantine, .quarantined, .quarantineEnd, .fault, .forcedDrain].map
        outcomeCode = [0, 1, 2, 3, 4, 5, 6, 7] ∧
      [Cause.frame, .line, .mgmt, .mode, .supervision].map causeCode = [0, 1, 2, 3, 4])

/-- R32, R153 to R155: SET-POINTER sets the pointer and makes the latch invalid; READ-TABLE answers with the latch, fills it with the six
bytes at the pointer and advances the pointer by six; an accepted WRITE-TABLE stores each byte whose page is not locked at the pointer and
the positions after it, in the standby bank alone (whose canonical form BanksLaw gives). Positions wrap after the last byte of the bank
(log 11 for a request that does not wait). -/
def Obligations.TableRequestsMoveThePointer : Prop :=
  (∀ (p : TablePointer) (n : Nat), (p.advance n).role = p.role ∧ (p.advance n).offset = (p.offset + n) % 2048) ∧
  (∀ (p : TablePointer) (rest : List Byte) (r s u : State), rest.length ≤ 4 →
    s = r.requestArrives (0x06 :: byteOf (roleCode p.role) :: byteOf p.page.val :: byteOf p.column.val :: rest) → u = beginRequest s →
    exec (.setPointer (byteOf (roleCode p.role) :: byteOf p.page.val :: byteOf p.column.val :: rest)) r =
      .next (State.answered { u with agent := { u.agent with pointer := p, latch := none } }
        [0x06, 0, byteOf (roleCode p.role), byteOf p.page.val, byteOf p.column.val, 0, 0, 0])) ∧
  (∀ (args : List Byte) (r s u v : State), args.length ≤ 7 → s = r.requestArrives (0x07 :: args) → u = beginRequest s →
    ∃ l : Vector Byte 6,
      (∀ i : Fin 6, l.get i = (s.store.bankOf s.agent.pointer.role).read ((s.agent.pointer.offset + i.val) % 2048)) ∧
      (v = { u with agent := { u.agent with latch := some l, pointer := s.agent.pointer.advance 6 } } →
        (s.agent.latch = none → exec (.readTable args) r = .next (v.answered [0x07, 1, 0, 0, 0, 0, 0, 0])) ∧
        (∀ old : Vector Byte 6, s.agent.latch = some old →
          exec (.readTable args) r = .next (v.answered ([0x07, 0] ++ old.toList))))) ∧
  (∀ (args : List Byte) (r s u : State), 1 ≤ args.length → args.length ≤ 7 → s.extendedOpen → s.store.standbyBank.wf = true →
    s = r.requestArrives (0x10 :: args) → u = beginRequest s →
    (s.agent.state ≠ .idle → exec (.writeTable args) r = .next (u.answered [0x10, 2, 0, 0, 0, 0, 0, 0])) ∧
    (s.agent.state = .idle → s.agent.pointer.role = .active →
      exec (.writeTable args) r = .next (u.answered [0x10, 4, 0, 0, 0, 0, 0, 0])) ∧
    (s.agent.state = .idle → s.agent.pointer.role = .standby →
      ∃ (t : State) (stored : Nat),
        exec (.writeTable args) r = .next (t.answered
          [0x10, 0, byteOf stored, 1, byteOf (s.agent.pointer.advance args.length).page.val,
            byteOf (s.agent.pointer.advance args.length).column.val, 0, 0]) ∧
        t = { u with store := t.store, agent := { u.agent with pointer := s.agent.pointer.advance args.length, latch := none } } ∧
        t.activeBank = s.activeBank ∧ t.store.verifyFault = s.store.verifyFault ∧ t.store.lockPages = s.store.lockPages ∧
        stored = ((List.range args.length).filter (fun i => !s.store.lockPages.getLsbD (s.agent.pointer.advance i).page.val)).length ∧
        t.store.standby = (if stored = 0 then s.store.standby else .dirty) ∧
        (∀ (i : Nat) (b : Byte), args[i]? = some b → s.store.lockPages.getLsbD (s.agent.pointer.advance i).page.val = false →
          t.store.standbyBank.read (s.agent.pointer.advance i).offset = b) ∧
        (∀ x : Nat,
          (∀ i : Nat, i < args.length → s.store.lockPages.getLsbD (s.agent.pointer.advance i).page.val = false →
            (s.agent.pointer.advance i).offset ≠ x) →
          t.store.standbyBank.read x = s.store.standbyBank.read x)))

/-- R28, R31, R38, R152, R156, R157, R158: VERIFY starts a verification from IDLE, ABORT stops one, LOCK replaces the lock page set in
every agent state; VERIFY and SWAP are answered BUSY unless IDLE, SWAP NOT_VERIFIED unless VERIFIED, ABORT BUSY during a copy
(log 11 for a request that does not wait). -/
def Obligations.VerifyAbortAndLock : Prop :=
  ∀ (args : List Byte) (r s u : State), args.length ≤ 7 →
    (s = r.requestArrives (0x11 :: args) → u = beginRequest s → s.extendedOpen →
      (s.agent.state ≠ .idle → exec (.verify args) r = .next (u.answered [0x11, 2, 0, 0, 0, 0, 0, 0])) ∧
      (s.agent.state = .idle → exec (.verify args) r = .next (State.answered
        { u with store := { u.store with standby := .dirty, verifyFault := none },
                 agent := { u.agent with state := .verifying, opLeft := some 25 } } [0x11, 0, 0, 0, 0, 0, 0, 0]))) ∧
    (s = r.requestArrives (0x08 :: args) → u = beginRequest s →
      (s.agent.state = .idle → exec (.abort args) r = .next (u.answered [0x08, 0, 0, 0, 0, 0, 0, 0])) ∧
      (s.agent.state = .verifying → exec (.abort args) r = .next (State.answered
        { u with store := { u.store with standby := .dirty }, agent := { u.agent with state := .idle, opLeft := none } }
        [0x08, 0, 1, 0, 0, 0, 0, 0])) ∧
      (s.agent.state = .copying → exec (.abort args) r = .next (u.answered [0x08, 2, 2, 0, 0, 0, 0, 0]))) ∧
    (s = r.requestArrives (0x12 :: args) → u = beginRequest s → s.extendedOpen →
      (s.agent.state ≠ .idle → exec (.swap args) r = .next (u.answered [0x12, 2, 0, 0, 0, 0, 0, 0])) ∧
      (s.agent.state = .idle → s.store.standby ≠ .verified →
        exec (.swap args) r = .next (u.answered [0x12, 5, 0, 0, 0, 0, 0, 0]))) ∧
    (∀ (a b : Byte) (rest : List Byte), args = a :: b :: rest → s = r.requestArrives (0x13 :: args) → u = beginRequest s →
      s.lines.svc.level = true →
      exec (.lock args) r = .next (State.answered { u with store := { u.store with lockPages := a ++ b } }
        [0x13, 0, a, b, 0, 0, 0, 0]))

/-- R60, R84, R83, R137, R163, R164: a wake request is taken for exactly the named groups, in ascending order, each whole before the next,
the refused ones gathered, and groups that it does not name stay as they are. WAKE hands its request to the groups and answers the on set
and the refused set; CLEAR-FAULT takes the named groups in FAULT to OFF, RELEASE-QUARANTINE the named groups in QUARANTINED with their
storm records cleared. Other groups stay as they are (log 11 for a request that does not wait). -/
def Obligations.GroupRequestsActOnNamedGroups : Prop :=
  (∀ (q : WakeRequest) (s : State),
    (takeWake q s).1 =
      (allGroups.filter (fun g : GroupId => q.set.getLsbD g)).foldl (fun t g => (takeWakeGroup q g t).1) s ∧
    (∀ g : GroupId, (takeWake q s).2.getLsbD g = true ↔
      q.set.getLsbD g = true ∧
      (takeWakeGroup q g
        ((allGroups.filter (fun h : GroupId => q.set.getLsbD h && decide (h < g))).foldl
          (fun t h => (takeWakeGroup q h t).1) s)).2 = true) ∧
    ∀ g : GroupId, q.set.getLsbD g = false →
      (takeWake q s).1.group g = s.group g ∧ (takeWake q s).1.stormOf g = s.stormOf g) ∧
  (∀ (set c : Byte) (rest : List Byte) (r s u t : State) (refused on : GroupSet), rest.length ≤ 5 → s.extendedOpen →
    s = r.requestArrives (0x14 :: set :: c :: rest) → u = beginRequest s →
    (∀ cls : WakeClass, c = byteOf cls.val →
      (t, refused) =
        takeWake { set := set, cls := cls, cause := .mgmt, source := some (.port 0), rule := none, ident := none } u →
      (∀ g : GroupId, on.getLsbD g = (set.getLsbD g && (t.group g).state.supplyOn)) →
      exec (.wake (set :: c :: rest)) r = .next (t.answered [0x14, 0, on, refused, 0, 0, 0, 0]))) ∧
  (∀ (set : Byte) (rest : List Byte) (r s u : State) (cleared : GroupSet), rest.length ≤ 6 → s.extendedOpen →
    (s = r.requestArrives (0x15 :: set :: rest) → u = beginRequest s →
      (∀ g : GroupId, cleared.getLsbD g = (set.getLsbD g && (s.group g).state == .fault)) →
      ∃ t : State, exec (.clearFault (set :: rest)) r = .next (t.answered [0x15, 0, cleared, 0, 0, 0, 0, 0]) ∧
        t = { u with groups := t.groups, ports := t.ports, hold := t.hold } ∧ PortsFollow u t ∧
        ∀ g : GroupId, t.group g =
          if cleared.getLsbD g then
            { s.group g with state := .off, timer := .stopped, grantClass := none, watch := false, faultGuard := 0 }
          else s.group g) ∧
    (s = r.requestArrives (0x16 :: set :: rest) → u = beginRequest s →
      (∀ g : GroupId, cleared.getLsbD g = (set.getLsbD g && (s.group g).state == .quarantined)) →
      ∃ t : State, exec (.releaseQuarantine (set :: rest)) r = .next (t.answered [0x16, 0, cleared, 0, 0, 0, 0, 0]) ∧
        t = { u with groups := t.groups, ports := t.ports, hold := t.hold, storm := t.storm, history := t.history } ∧
        PortsFollow u t ∧
        t.history = (allGroups.filter (fun g : GroupId => cleared.getLsbD g.val)).foldl
          (fun h g => h.push (PlainRecord .quarantineEnd g .mgmt (some (.port 0)) none s)) s.history ∧
        ∀ g : GroupId,
          t.group g =
            (if cleared.getLsbD g then
              { s.group g with state := .off, timer := .stopped, grantClass := none, watch := false, faultGuard := 0 }
            else s.group g) ∧
          t.stormOf g = if cleared.getLsbD g then { count := 0, window := none, quarantine := none } else s.stormOf g))

/-- R145: an accepted CLEAR-HISTORY removes every record and sets the overwrite count to 0, changing no storm record, group state or
counter beyond what taking and answering a request does; a record written after it stands alone at index 0, one written before it is
gone, and until one is written READ-HISTORY answers NO_DATA for every index and part. RequestsAreTakenAndChecked carries this to a row
whose request does not wait. -/
def Obligations.ClearHistoryEmptiesTheHistory : Prop :=
  ∀ (args : List Byte) (s u : State), args.length ≤ 7 → s.extendedOpen → s.agent.request = some (0x17 :: args) → u = beginRequest s →
    exec (.clearHistory args) s = .next (State.answered { u with history := { records := [], overwrites := 0 } }
      [0x17, 0, 0, 0, 0, 0, 0, 0]) ∧
    (u.storm = s.storm ∧ u.groups = s.groups) ∧
    (∀ w : WakeRecord, WakeHistory.push { records := [], overwrites := 0 } w = { records := [w], overwrites := 0 }) ∧
    (∀ w : WakeRecord, exec (.clearHistory args) { s with history := s.history.push w } = exec (.clearHistory args) s) ∧
    (∀ (v : State) (i part : Byte) (rest : List Byte), v.agent.request = some (0x04 :: i :: part :: rest) →
      v.history = { records := [], overwrites := 0 } → i.toNat ≤ 31 → part.toNat ≤ 3 → rest.length ≤ 5 →
      exec (.readHistory (i :: part :: rest)) v = .next ((beginRequest v).answered [0x04, 1, 0, 0, 0, 0, 0, 0]))
end

