-- ==== Sys2Proof/Laws/Memory.lean ====
section
/-! SUPPORT. The laws of a bank: reading what was written, the canonical form, and that every operation that changes a bank keeps it. -/

namespace Sys2Proof.Machine

theorem wfFrom_mono {m : Memory} {lo hi : Nat} (h : lo ≤ hi) (hm : m.wfFrom hi = true) : m.wfFrom lo = true := by
  cases m with
  | nil => rfl
  | cons x rest =>
    simp only [Memory.wfFrom, Bool.and_eq_true, decide_eq_true_eq] at hm ⊢
    exact ⟨⟨⟨by omega, hm.1.1.2⟩, hm.1.2⟩, hm.2⟩

/-- Below the first address of a bank in canonical form every byte is unwritten. -/
theorem read_below {m : Memory} {lo x : Nat} (hm : m.wfFrom lo = true) (hx : x < lo) : m.read x = Memory.unwritten := by
  induction m generalizing lo with
  | nil => rfl
  | cons c rest ih =>
    simp only [Memory.wfFrom, Bool.and_eq_true, decide_eq_true_eq] at hm
    rw [Memory.read, if_neg (by omega)]
    exact ih hm.2 (by omega)

/-- A byte reads as the value last stored there, and a store leaves every other byte alone. -/
theorem read_write {m : Memory} {lo : Nat} (hm : m.wfFrom lo = true) (x y : Nat) (v : Byte) :
    (m.write x v).read y = if y = x then v else m.read y := by
  induction m generalizing lo with
  | nil =>
    by_cases hy : y = x
    · by_cases hv : v = Memory.unwritten <;> simp [Memory.write, Memory.read, hv, hy]
    · by_cases hv : v = Memory.unwritten <;> simp [Memory.write, Memory.read, hv, hy, Ne.symm hy]
  | cons c rest ih =>
    obtain ⟨a, b⟩ := c
    have h := hm
    simp only [Memory.wfFrom, Bool.and_eq_true, decide_eq_true_eq] at h
    have below : x ≤ a → Memory.read rest x = Memory.unwritten := fun hxa => read_below (lo := a + 1) h.2 (by omega)
    rcases lt_trichotomy x a with hlt | heq | hgt
    · by_cases hv : v = Memory.unwritten
      · rw [Memory.write, if_pos hlt, if_pos hv]
        split
        · subst_vars; rw [Memory.read, if_neg (by omega), below (by omega)]
        · rfl
      · rw [Memory.write, if_pos hlt, if_neg hv, Memory.read]
        simp only [eq_comm]
    · subst heq
      by_cases hv : v = Memory.unwritten
      · rw [Memory.write, if_neg (lt_irrefl _), if_pos rfl, if_pos hv]
        by_cases hy : y = x
        · subst hy; rw [if_pos rfl, below (le_refl _), hv]
        · rw [if_neg hy, Memory.read, if_neg (fun e => hy e.symm)]
      · rw [Memory.write, if_neg (lt_irrefl _), if_pos rfl, if_neg hv]
        by_cases hy : y = x
        · subst hy; simp [Memory.read]
        · rw [if_neg hy, Memory.read, Memory.read, if_neg (fun e => hy e.symm), if_neg (fun e => hy e.symm)]
    · rw [Memory.write, if_neg (by omega), if_neg (by omega), Memory.read, Memory.read, ih h.2]
      by_cases hy : y = x
      · subst hy; simp; omega
      · simp [hy]

/-- A store within the bank keeps the canonical form. -/
theorem wfFrom_write {m : Memory} {lo x : Nat} {v : Byte} (hm : m.wfFrom lo = true) (hlo : lo ≤ x) (hx : x < Config.bankBytes) :
    (m.write x v).wfFrom lo = true := by
  induction m generalizing lo with
  | nil => by_cases hv : v = Memory.unwritten <;> simp [Memory.write, Memory.wfFrom, hv, hlo, hx]
  | cons c rest ih =>
    obtain ⟨a, b⟩ := c
    have h := hm
    simp only [Memory.wfFrom, Bool.and_eq_true, decide_eq_true_eq] at h
    rcases lt_trichotomy x a with hlt | heq | hgt
    · by_cases hv : v = Memory.unwritten
      · rw [Memory.write, if_pos hlt, if_pos hv]; exact hm
      · rw [Memory.write, if_pos hlt, if_neg hv]
        simp only [Memory.wfFrom, Bool.and_eq_true, decide_eq_true_eq]
        exact ⟨⟨⟨hlo, hx⟩, hv⟩, ⟨⟨by omega, h.1.1.2⟩, h.1.2⟩, h.2⟩
    · subst heq
      by_cases hv : v = Memory.unwritten
      · rw [Memory.write, if_neg (lt_irrefl _), if_pos rfl, if_pos hv]; exact wfFrom_mono (by omega) h.2
      · rw [Memory.write, if_neg (lt_irrefl _), if_pos rfl, if_neg hv]
        simp only [Memory.wfFrom, Bool.and_eq_true, decide_eq_true_eq]
        exact ⟨⟨⟨hlo, hx⟩, hv⟩, h.2⟩
    · rw [Memory.write, if_neg (by omega), if_neg (by omega)]
      simp only [Memory.wfFrom, Bool.and_eq_true, decide_eq_true_eq]
      exact ⟨⟨⟨h.1.1.1, h.1.1.2⟩, h.1.2⟩, ih h.2 (by omega)⟩

theorem wf_write {m : Memory} {x : Nat} {v : Byte} (hm : m.wf = true) (hx : x < Config.bankBytes) : (m.write x v).wf = true :=
  wfFrom_write hm (Nat.zero_le _) hx

/-- The pointer names a byte of a bank. -/
theorem pointer_offset_lt (p : TablePointer) : p.offset < Config.bankBytes := by
  have := p.page.isLt
  have := p.column.isLt
  simp only [TablePointer.offset, Config.bankBytes]
  omega

/-- Advancing the pointer adds to its offset, modulo the bank, and keeps its role (R153). -/
theorem pointer_advance (p : TablePointer) (n : Nat) :
    (p.advance n).role = p.role ∧ (p.advance n).offset = (p.offset + n) % 2048 := by
  refine ⟨rfl, ?_⟩
  simp only [TablePointer.advance, TablePointer.offset, Fin.ofNat]
  omega

theorem pointer_ext {p q : TablePointer} (hr : p.role = q.role) (ho : p.offset = q.offset) : p = q := by
  obtain ⟨r, pg, c⟩ := p
  obtain ⟨r', pg', c'⟩ := q
  have h1 := c.isLt
  have h2 := c'.isLt
  simp only [TablePointer.offset] at ho hr ⊢
  subst hr
  congr 1 <;> apply Fin.ext <;> omega

theorem pointer_advance_add (p : TablePointer) (m n : Nat) : (p.advance m).advance n = p.advance (m + n) := by
  refine pointer_ext rfl ?_
  rw [(pointer_advance _ _).2, (pointer_advance _ _).2, (pointer_advance _ _).2]
  omega

theorem pointer_advance_zero (p : TablePointer) : p.advance 0 = p := by
  refine pointer_ext rfl ?_
  have := pointer_offset_lt p
  simp only [Config.bankBytes] at this
  rw [(pointer_advance _ _).2]
  omega

/-- A WRITE-TABLE keeps the canonical form of its bank. -/
theorem wf_writeBytes {lock : PageSet} {m : Memory} {p : TablePointer} {data : List Byte} (hm : m.wf = true) :
    (writeBytes lock m p data).1.wf = true := by
  have key : ∀ (data : List Byte) (acc : Memory × TablePointer × Nat), acc.1.wf = true →
      (data.foldl (writeByte lock) acc).1.wf = true := by
    intro data
    induction data with
    | nil => exact fun _ h => h
    | cons b rest ih =>
      intro acc h
      refine ih _ ?_
      simp only [writeByte]
      split
      · exact h
      · exact wf_write h (pointer_offset_lt _)
  exact key data _ hm

/-- The banks after power-on have the canonical form. -/
theorem reset_banks_wf : State.reset.store.bank0.wf = true ∧ State.reset.store.bank1.wf = true := ⟨rfl, rfl⟩

@[simp] theorem setStandbyBank_active (r : RuleStore) (m : Memory) : (r.setStandbyBank m).active = r.active := by
  unfold RuleStore.setStandbyBank RuleStore.active
  split <;> simp_all

@[simp] theorem setStandbyBank_standbyBank (r : RuleStore) (m : Memory) : (r.setStandbyBank m).standbyBank = m := by
  unfold RuleStore.setStandbyBank RuleStore.standbyBank
  split <;> simp_all

/-- Replacing the standby bank by one in canonical form keeps the form of both. -/
theorem setStandbyBank_wf {r : RuleStore} {m : Memory} (h0 : r.bank0.wf = true) (h1 : r.bank1.wf = true) (hm : m.wf = true) :
    (r.setStandbyBank m).bank0.wf = true ∧ (r.setStandbyBank m).bank1.wf = true := by
  unfold RuleStore.setStandbyBank
  split <;> simp [h0, h1, hm]

@[simp] theorem exchange_active (r : RuleStore) : r.exchange.active = r.standbyBank := by
  unfold RuleStore.exchange RuleStore.active RuleStore.standbyBank
  cases h : r.activeIsOne <;> simp

@[simp] theorem exchange_standbyBank (r : RuleStore) : r.exchange.standbyBank = r.active := by
  unfold RuleStore.exchange RuleStore.active RuleStore.standbyBank
  cases h : r.activeIsOne <;> simp

end Sys2Proof.Machine
end

