-- ==== Sys2Proof/Laws/State.lean ====
section
/-! SUPPORT. The small lemmas of the state's updates: what each leaves as it is, field by field, and what it sets. -/

namespace Sys2Proof.Machine

/-! ### Tables of five ports and eight groups -/

@[simp] theorem tabPorts_get {α : Type} (f : PortId → α) (p : PortId) : (tabPorts f).get p = f p := by
  fin_cases p <;> rfl

@[simp] theorem tabGroups_get {α : Type} (f : GroupId → α) (g : GroupId) : (tabGroups f).get g = f g := by
  fin_cases g <;> rfl

@[simp] theorem vector_get_set_self {α : Type} {n : Nat} (v : Vector α n) (i : Fin n) (x : α) : (v.set i.val x i.isLt).get i = x := by
  change (v.set i.val x i.isLt)[i.val] = x
  simp

theorem vector_get_set_ne {α : Type} {n : Nat} (v : Vector α n) {i j : Fin n} (x : α) (h : j ≠ i) :
    (v.set i.val x i.isLt).get j = v.get j := by
  have : i.val ≠ j.val := fun e => h (Fin.ext e.symm)
  change (v.set i.val x i.isLt)[j.val] = v[j.val]
  simp [this]

theorem vector_set_get {α : Type} {n : Nat} (v : Vector α n) (i : Fin n) : v.set i.val (v.get i) i.isLt = v := by
  change v.set i.val v[i.val] i.isLt = v
  simp

/-- Two tables of eight agree when they agree at every group. -/
theorem vector_ext_get {α : Type} {n : Nat} {v w : Vector α n} (h : ∀ i : Fin n, v.get i = w.get i) : v = w := by
  ext i hi
  exact h ⟨i, hi⟩

theorem mem_allGroups (g : GroupId) : g ∈ allGroups := by fin_cases g <;> decide

theorem mem_allPorts (p : PortId) : p ∈ allPorts := by fin_cases p <;> decide

theorem allGroups_nodup : allGroups.Nodup := by decide

theorem allPorts_nodup : allPorts.Nodup := by decide

/-! ### What is set -/

@[simp] theorem port_setPort_self (s : State) (p : PortId) (x : Port) : (s.setPort p x).port p = x := by
  simp [State.port, State.setPort]

@[simp] theorem port_setPort_ne (s : State) {p q : PortId} (x : Port) (h : q ≠ p) : (s.setPort p x).port q = s.port q := by
  simp [State.port, State.setPort, vector_get_set_ne, h]

@[simp] theorem group_setGroup_self (s : State) (g : GroupId) (x : Group) : (s.setGroup g x).group g = x := by
  simp [State.group, State.setGroup]

@[simp] theorem group_setGroup_ne (s : State) {g h : GroupId} (x : Group) (hne : h ≠ g) :
    (s.setGroup g x).group h = s.group h := by
  simp [State.group, State.setGroup, vector_get_set_ne, hne]

@[simp] theorem stormOf_setStorm_self (s : State) (g : GroupId) (x : StormRecord) : (s.setStorm g x).stormOf g = x := by
  simp [State.stormOf, State.setStorm]

@[simp] theorem stormOf_setStorm_ne (s : State) {g h : GroupId} (x : StormRecord) (hne : h ≠ g) :
    (s.setStorm g x).stormOf h = s.stormOf h := by
  simp [State.stormOf, State.setStorm, vector_get_set_ne, hne]

@[simp] theorem line_setLine_self (s : State) (l : InputLine) (x : Line) : (s.setLine l x).line l = x := by
  cases l <;> simp [State.line, State.setLine]

@[simp] theorem line_setLine_ne (s : State) {l k : InputLine} (x : Line) (h : k ≠ l) : (s.setLine l x).line k = s.line k := by
  cases l <;> cases k <;> simp_all [State.line, State.setLine, vector_get_set_ne]

theorem setPort_port (s : State) (p : PortId) : s.setPort p (s.port p) = s := by
  simp [State.setPort, State.port, vector_set_get]

theorem setGroup_group (s : State) (g : GroupId) : s.setGroup g (s.group g) = s := by
  simp [State.setGroup, State.group, vector_set_get]

theorem setPort_setPort (s : State) (p : PortId) (x y : Port) : (s.setPort p x).setPort p y = s.setPort p y := by
  simp [State.setPort]

theorem setGroup_setGroup (s : State) (g : GroupId) (x y : Group) : (s.setGroup g x).setGroup g y = s.setGroup g y := by
  simp [State.setGroup]

/-! ### What an update leaves -/


@[simp] theorem store_setPort (s : State) (p : PortId) (x : Port) : (s.setPort p x).store = s.store := rfl
@[simp] theorem lines_setPort (s : State) (p : PortId) (x : Port) : (s.setPort p x).lines = s.lines := rfl
@[simp] theorem pg_setPort (s : State) (p : PortId) (x : Port) : (s.setPort p x).pg = s.pg := rfl
@[simp] theorem hold_setPort (s : State) (p : PortId) (x : Port) : (s.setPort p x).hold = s.hold := rfl
@[simp] theorem groups_setPort (s : State) (p : PortId) (x : Port) : (s.setPort p x).groups = s.groups := rfl
@[simp] theorem mode_setPort (s : State) (p : PortId) (x : Port) : (s.setPort p x).mode = s.mode := rfl
@[simp] theorem charge_setPort (s : State) (p : PortId) (x : Port) : (s.setPort p x).charge = s.charge := rfl
@[simp] theorem storm_setPort (s : State) (p : PortId) (x : Port) : (s.setPort p x).storm = s.storm := rfl
@[simp] theorem history_setPort (s : State) (p : PortId) (x : Port) : (s.setPort p x).history = s.history := rfl
@[simp] theorem agent_setPort (s : State) (p : PortId) (x : Port) : (s.setPort p x).agent = s.agent := rfl
@[simp] theorem pending_setPort (s : State) (p : PortId) (x : Port) : (s.setPort p x).pending = s.pending := rfl

@[simp] theorem ports_setGroup (s : State) (g : GroupId) (x : Group) : (s.setGroup g x).ports = s.ports := rfl
@[simp] theorem store_setGroup (s : State) (g : GroupId) (x : Group) : (s.setGroup g x).store = s.store := rfl
@[simp] theorem lines_setGroup (s : State) (g : GroupId) (x : Group) : (s.setGroup g x).lines = s.lines := rfl
@[simp] theorem pg_setGroup (s : State) (g : GroupId) (x : Group) : (s.setGroup g x).pg = s.pg := rfl
@[simp] theorem hold_setGroup (s : State) (g : GroupId) (x : Group) : (s.setGroup g x).hold = s.hold := rfl
@[simp] theorem mode_setGroup (s : State) (g : GroupId) (x : Group) : (s.setGroup g x).mode = s.mode := rfl
@[simp] theorem charge_setGroup (s : State) (g : GroupId) (x : Group) : (s.setGroup g x).charge = s.charge := rfl
@[simp] theorem storm_setGroup (s : State) (g : GroupId) (x : Group) : (s.setGroup g x).storm = s.storm := rfl
@[simp] theorem history_setGroup (s : State) (g : GroupId) (x : Group) : (s.setGroup g x).history = s.history := rfl
@[simp] theorem agent_setGroup (s : State) (g : GroupId) (x : Group) : (s.setGroup g x).agent = s.agent := rfl
@[simp] theorem pending_setGroup (s : State) (g : GroupId) (x : Group) : (s.setGroup g x).pending = s.pending := rfl

@[simp] theorem ports_setStorm (s : State) (g : GroupId) (x : StormRecord) : (s.setStorm g x).ports = s.ports := rfl
@[simp] theorem store_setStorm (s : State) (g : GroupId) (x : StormRecord) : (s.setStorm g x).store = s.store := rfl
@[simp] theorem lines_setStorm (s : State) (g : GroupId) (x : StormRecord) : (s.setStorm g x).lines = s.lines := rfl
@[simp] theorem pg_setStorm (s : State) (g : GroupId) (x : StormRecord) : (s.setStorm g x).pg = s.pg := rfl
@[simp] theorem hold_setStorm (s : State) (g : GroupId) (x : StormRecord) : (s.setStorm g x).hold = s.hold := rfl
@[simp] theorem groups_setStorm (s : State) (g : GroupId) (x : StormRecord) : (s.setStorm g x).groups = s.groups := rfl
@[simp] theorem mode_setStorm (s : State) (g : GroupId) (x : StormRecord) : (s.setStorm g x).mode = s.mode := rfl
@[simp] theorem charge_setStorm (s : State) (g : GroupId) (x : StormRecord) : (s.setStorm g x).charge = s.charge := rfl
@[simp] theorem history_setStorm (s : State) (g : GroupId) (x : StormRecord) : (s.setStorm g x).history = s.history := rfl
@[simp] theorem agent_setStorm (s : State) (g : GroupId) (x : StormRecord) : (s.setStorm g x).agent = s.agent := rfl
@[simp] theorem pending_setStorm (s : State) (g : GroupId) (x : StormRecord) : (s.setStorm g x).pending = s.pending := rfl

@[simp] theorem ports_setLine (s : State) (l : InputLine) (x : Line) : (s.setLine l x).ports = s.ports := by cases l <;> rfl
@[simp] theorem store_setLine (s : State) (l : InputLine) (x : Line) : (s.setLine l x).store = s.store := by cases l <;> rfl
@[simp] theorem pg_setLine (s : State) (l : InputLine) (x : Line) : (s.setLine l x).pg = s.pg := by cases l <;> rfl
@[simp] theorem hold_setLine (s : State) (l : InputLine) (x : Line) : (s.setLine l x).hold = s.hold := by cases l <;> rfl
@[simp] theorem groups_setLine (s : State) (l : InputLine) (x : Line) : (s.setLine l x).groups = s.groups := by cases l <;> rfl
@[simp] theorem mode_setLine (s : State) (l : InputLine) (x : Line) : (s.setLine l x).mode = s.mode := by cases l <;> rfl
@[simp] theorem charge_setLine (s : State) (l : InputLine) (x : Line) : (s.setLine l x).charge = s.charge := by cases l <;> rfl
@[simp] theorem storm_setLine (s : State) (l : InputLine) (x : Line) : (s.setLine l x).storm = s.storm := by cases l <;> rfl
@[simp] theorem history_setLine (s : State) (l : InputLine) (x : Line) : (s.setLine l x).history = s.history := by cases l <;> rfl
@[simp] theorem agent_setLine (s : State) (l : InputLine) (x : Line) : (s.setLine l x).agent = s.agent := by cases l <;> rfl
@[simp] theorem pending_setLine (s : State) (l : InputLine) (x : Line) : (s.setLine l x).pending = s.pending := by cases l <;> rfl

@[simp] theorem ports_setPg (s : State) (g : GroupId) (v : Bool) : (s.setPg g v).ports = s.ports := rfl
@[simp] theorem store_setPg (s : State) (g : GroupId) (v : Bool) : (s.setPg g v).store = s.store := rfl
@[simp] theorem lines_setPg (s : State) (g : GroupId) (v : Bool) : (s.setPg g v).lines = s.lines := rfl
@[simp] theorem hold_setPg (s : State) (g : GroupId) (v : Bool) : (s.setPg g v).hold = s.hold := rfl
@[simp] theorem groups_setPg (s : State) (g : GroupId) (v : Bool) : (s.setPg g v).groups = s.groups := rfl
@[simp] theorem mode_setPg (s : State) (g : GroupId) (v : Bool) : (s.setPg g v).mode = s.mode := rfl
@[simp] theorem charge_setPg (s : State) (g : GroupId) (v : Bool) : (s.setPg g v).charge = s.charge := rfl
@[simp] theorem storm_setPg (s : State) (g : GroupId) (v : Bool) : (s.setPg g v).storm = s.storm := rfl
@[simp] theorem history_setPg (s : State) (g : GroupId) (v : Bool) : (s.setPg g v).history = s.history := rfl
@[simp] theorem agent_setPg (s : State) (g : GroupId) (v : Bool) : (s.setPg g v).agent = s.agent := rfl
@[simp] theorem pending_setPg (s : State) (g : GroupId) (v : Bool) : (s.setPg g v).pending = s.pending := rfl

@[simp] theorem store_sync (s : State) : (s.sync).store = s.store := rfl
@[simp] theorem lines_sync (s : State) : (s.sync).lines = s.lines := rfl
@[simp] theorem pg_sync (s : State) : (s.sync).pg = s.pg := rfl
@[simp] theorem groups_sync (s : State) : (s.sync).groups = s.groups := rfl
@[simp] theorem mode_sync (s : State) : (s.sync).mode = s.mode := rfl
@[simp] theorem charge_sync (s : State) : (s.sync).charge = s.charge := rfl
@[simp] theorem storm_sync (s : State) : (s.sync).storm = s.storm := rfl
@[simp] theorem history_sync (s : State) : (s.sync).history = s.history := rfl
@[simp] theorem agent_sync (s : State) : (s.sync).agent = s.agent := rfl
@[simp] theorem pending_sync (s : State) : (s.sync).pending = s.pending := rfl

@[simp] theorem ports_recordRequest (s : State) (o : WakeOutcome) (g : GroupId) (r : WakeRequest) : (s.recordRequest o g r).ports = s.ports := rfl
@[simp] theorem store_recordRequest (s : State) (o : WakeOutcome) (g : GroupId) (r : WakeRequest) : (s.recordRequest o g r).store = s.store := rfl
@[simp] theorem lines_recordRequest (s : State) (o : WakeOutcome) (g : GroupId) (r : WakeRequest) : (s.recordRequest o g r).lines = s.lines := rfl
@[simp] theorem pg_recordRequest (s : State) (o : WakeOutcome) (g : GroupId) (r : WakeRequest) : (s.recordRequest o g r).pg = s.pg := rfl
@[simp] theorem hold_recordRequest (s : State) (o : WakeOutcome) (g : GroupId) (r : WakeRequest) : (s.recordRequest o g r).hold = s.hold := rfl
@[simp] theorem groups_recordRequest (s : State) (o : WakeOutcome) (g : GroupId) (r : WakeRequest) : (s.recordRequest o g r).groups = s.groups := rfl
@[simp] theorem mode_recordRequest (s : State) (o : WakeOutcome) (g : GroupId) (r : WakeRequest) : (s.recordRequest o g r).mode = s.mode := rfl
@[simp] theorem charge_recordRequest (s : State) (o : WakeOutcome) (g : GroupId) (r : WakeRequest) : (s.recordRequest o g r).charge = s.charge := rfl
@[simp] theorem storm_recordRequest (s : State) (o : WakeOutcome) (g : GroupId) (r : WakeRequest) : (s.recordRequest o g r).storm = s.storm := rfl
@[simp] theorem agent_recordRequest (s : State) (o : WakeOutcome) (g : GroupId) (r : WakeRequest) : (s.recordRequest o g r).agent = s.agent := rfl
@[simp] theorem pending_recordRequest (s : State) (o : WakeOutcome) (g : GroupId) (r : WakeRequest) : (s.recordRequest o g r).pending = s.pending := rfl

@[simp] theorem ports_recordPlain (s : State) (o : WakeOutcome) (g : GroupId) (c : Cause) (src : Option Source) (f : Option FaultCause) : (s.recordPlain o g c src f).ports = s.ports := rfl
@[simp] theorem store_recordPlain (s : State) (o : WakeOutcome) (g : GroupId) (c : Cause) (src : Option Source) (f : Option FaultCause) : (s.recordPlain o g c src f).store = s.store := rfl
@[simp] theorem lines_recordPlain (s : State) (o : WakeOutcome) (g : GroupId) (c : Cause) (src : Option Source) (f : Option FaultCause) : (s.recordPlain o g c src f).lines = s.lines := rfl
@[simp] theorem pg_recordPlain (s : State) (o : WakeOutcome) (g : GroupId) (c : Cause) (src : Option Source) (f : Option FaultCause) : (s.recordPlain o g c src f).pg = s.pg := rfl
@[simp] theorem hold_recordPlain (s : State) (o : WakeOutcome) (g : GroupId) (c : Cause) (src : Option Source) (f : Option FaultCause) : (s.recordPlain o g c src f).hold = s.hold := rfl
@[simp] theorem groups_recordPlain (s : State) (o : WakeOutcome) (g : GroupId) (c : Cause) (src : Option Source) (f : Option FaultCause) : (s.recordPlain o g c src f).groups = s.groups := rfl
@[simp] theorem mode_recordPlain (s : State) (o : WakeOutcome) (g : GroupId) (c : Cause) (src : Option Source) (f : Option FaultCause) : (s.recordPlain o g c src f).mode = s.mode := rfl
@[simp] theorem charge_recordPlain (s : State) (o : WakeOutcome) (g : GroupId) (c : Cause) (src : Option Source) (f : Option FaultCause) : (s.recordPlain o g c src f).charge = s.charge := rfl
@[simp] theorem storm_recordPlain (s : State) (o : WakeOutcome) (g : GroupId) (c : Cause) (src : Option Source) (f : Option FaultCause) : (s.recordPlain o g c src f).storm = s.storm := rfl
@[simp] theorem agent_recordPlain (s : State) (o : WakeOutcome) (g : GroupId) (c : Cause) (src : Option Source) (f : Option FaultCause) : (s.recordPlain o g c src f).agent = s.agent := rfl
@[simp] theorem pending_recordPlain (s : State) (o : WakeOutcome) (g : GroupId) (c : Cause) (src : Option Source) (f : Option FaultCause) : (s.recordPlain o g c src f).pending = s.pending := rfl

@[simp] theorem store_offer (s : State) (p : PortId) (f : Frame) : (s.offer p f).store = s.store := rfl
@[simp] theorem lines_offer (s : State) (p : PortId) (f : Frame) : (s.offer p f).lines = s.lines := rfl
@[simp] theorem pg_offer (s : State) (p : PortId) (f : Frame) : (s.offer p f).pg = s.pg := rfl
@[simp] theorem hold_offer (s : State) (p : PortId) (f : Frame) : (s.offer p f).hold = s.hold := rfl
@[simp] theorem groups_offer (s : State) (p : PortId) (f : Frame) : (s.offer p f).groups = s.groups := rfl
@[simp] theorem mode_offer (s : State) (p : PortId) (f : Frame) : (s.offer p f).mode = s.mode := rfl
@[simp] theorem charge_offer (s : State) (p : PortId) (f : Frame) : (s.offer p f).charge = s.charge := rfl
@[simp] theorem storm_offer (s : State) (p : PortId) (f : Frame) : (s.offer p f).storm = s.storm := rfl
@[simp] theorem history_offer (s : State) (p : PortId) (f : Frame) : (s.offer p f).history = s.history := rfl
@[simp] theorem agent_offer (s : State) (p : PortId) (f : Frame) : (s.offer p f).agent = s.agent := rfl
@[simp] theorem pending_offer (s : State) (p : PortId) (f : Frame) : (s.offer p f).pending = s.pending := rfl

@[simp] theorem store_count (s : State) (p : PortId) (c : Counter) : (s.count p c).store = s.store := rfl
@[simp] theorem lines_count (s : State) (p : PortId) (c : Counter) : (s.count p c).lines = s.lines := rfl
@[simp] theorem pg_count (s : State) (p : PortId) (c : Counter) : (s.count p c).pg = s.pg := rfl
@[simp] theorem hold_count (s : State) (p : PortId) (c : Counter) : (s.count p c).hold = s.hold := rfl
@[simp] theorem groups_count (s : State) (p : PortId) (c : Counter) : (s.count p c).groups = s.groups := rfl
@[simp] theorem mode_count (s : State) (p : PortId) (c : Counter) : (s.count p c).mode = s.mode := rfl
@[simp] theorem charge_count (s : State) (p : PortId) (c : Counter) : (s.count p c).charge = s.charge := rfl
@[simp] theorem storm_count (s : State) (p : PortId) (c : Counter) : (s.count p c).storm = s.storm := rfl
@[simp] theorem history_count (s : State) (p : PortId) (c : Counter) : (s.count p c).history = s.history := rfl
@[simp] theorem agent_count (s : State) (p : PortId) (c : Counter) : (s.count p c).agent = s.agent := rfl
@[simp] theorem pending_count (s : State) (p : PortId) (c : Counter) : (s.count p c).pending = s.pending := rfl

@[simp] theorem group_setPort (s : State) (p : PortId) (x : Port) (g : GroupId) : (s.setPort p x).group g = s.group g := rfl
@[simp] theorem stormOf_setPort (s : State) (p : PortId) (x : Port) (g : GroupId) : (s.setPort p x).stormOf g = s.stormOf g := rfl
@[simp] theorem params_setPort (s : State) (p : PortId) (x : Port) (g : GroupId) : (s.setPort p x).params g = s.params g := rfl
@[simp] theorem activeBank_setPort (s : State) (p : PortId) (x : Port) : (s.setPort p x).activeBank = s.activeBank := rfl
@[simp] theorem awake_setPort (s : State) (p : PortId) (x : Port) (q : PortId) : (s.setPort p x).awake q = s.awake q := rfl
@[simp] theorem prospects_setPort (s : State) (p : PortId) (x : Port) (q : PortId) : (s.setPort p x).prospects q = s.prospects q := rfl
@[simp] theorem group_setStorm (s : State) (h : GroupId) (x : StormRecord) (g : GroupId) : (s.setStorm h x).group g = s.group g := rfl
@[simp] theorem port_setStorm (s : State) (h : GroupId) (x : StormRecord) (p : PortId) : (s.setStorm h x).port p = s.port p := rfl
@[simp] theorem params_setStorm (s : State) (h : GroupId) (x : StormRecord) (g : GroupId) : (s.setStorm h x).params g = s.params g := rfl
@[simp] theorem activeBank_setStorm (s : State) (h : GroupId) (x : StormRecord) : (s.setStorm h x).activeBank = s.activeBank := rfl
@[simp] theorem awake_setStorm (s : State) (h : GroupId) (x : StormRecord) (q : PortId) : (s.setStorm h x).awake q = s.awake q := rfl
@[simp] theorem prospects_setStorm (s : State) (h : GroupId) (x : StormRecord) (q : PortId) : (s.setStorm h x).prospects q = s.prospects q := rfl
@[simp] theorem group_setPg (s : State) (h : GroupId) (v : Bool) (g : GroupId) : (s.setPg h v).group g = s.group g := rfl
@[simp] theorem stormOf_setPg (s : State) (h : GroupId) (v : Bool) (g : GroupId) : (s.setPg h v).stormOf g = s.stormOf g := rfl
@[simp] theorem port_setPg (s : State) (h : GroupId) (v : Bool) (p : PortId) : (s.setPg h v).port p = s.port p := rfl
@[simp] theorem params_setPg (s : State) (h : GroupId) (v : Bool) (g : GroupId) : (s.setPg h v).params g = s.params g := rfl
@[simp] theorem activeBank_setPg (s : State) (h : GroupId) (v : Bool) : (s.setPg h v).activeBank = s.activeBank := rfl
@[simp] theorem awake_setPg (s : State) (h : GroupId) (v : Bool) (q : PortId) : (s.setPg h v).awake q = s.awake q := rfl
@[simp] theorem prospects_setPg (s : State) (h : GroupId) (v : Bool) (q : PortId) : (s.setPg h v).prospects q = s.prospects q := rfl
@[simp] theorem group_sync (s : State) (g : GroupId) : (s.sync).group g = s.group g := rfl
@[simp] theorem stormOf_sync (s : State) (g : GroupId) : (s.sync).stormOf g = s.stormOf g := rfl
@[simp] theorem params_sync (s : State) (g : GroupId) : (s.sync).params g = s.params g := rfl
@[simp] theorem activeBank_sync (s : State) : (s.sync).activeBank = s.activeBank := rfl
@[simp] theorem awake_sync (s : State) (q : PortId) : (s.sync).awake q = s.awake q := rfl
@[simp] theorem prospects_sync (s : State) (q : PortId) : (s.sync).prospects q = s.prospects q := rfl
@[simp] theorem group_recordRequest (s : State) (o : WakeOutcome) (h : GroupId) (r : WakeRequest) (g : GroupId) : (s.recordRequest o h r).group g = s.group g := rfl
@[simp] theorem stormOf_recordRequest (s : State) (o : WakeOutcome) (h : GroupId) (r : WakeRequest) (g : GroupId) : (s.recordRequest o h r).stormOf g = s.stormOf g := rfl
@[simp] theorem port_recordRequest (s : State) (o : WakeOutcome) (h : GroupId) (r : WakeRequest) (p : PortId) : (s.recordRequest o h r).port p = s.port p := rfl
@[simp] theorem params_recordRequest (s : State) (o : WakeOutcome) (h : GroupId) (r : WakeRequest) (g : GroupId) : (s.recordRequest o h r).params g = s.params g := rfl
@[simp] theorem activeBank_recordRequest (s : State) (o : WakeOutcome) (h : GroupId) (r : WakeRequest) : (s.recordRequest o h r).activeBank = s.activeBank := rfl
@[simp] theorem awake_recordRequest (s : State) (o : WakeOutcome) (h : GroupId) (r : WakeRequest) (q : PortId) : (s.recordRequest o h r).awake q = s.awake q := rfl
@[simp] theorem prospects_recordRequest (s : State) (o : WakeOutcome) (h : GroupId) (r : WakeRequest) (q : PortId) : (s.recordRequest o h r).prospects q = s.prospects q := rfl
@[simp] theorem group_recordPlain (s : State) (o : WakeOutcome) (h : GroupId) (c : Cause) (src : Option Source) (f : Option FaultCause) (g : GroupId) : (s.recordPlain o h c src f).group g = s.group g := rfl
@[simp] theorem stormOf_recordPlain (s : State) (o : WakeOutcome) (h : GroupId) (c : Cause) (src : Option Source) (f : Option FaultCause) (g : GroupId) : (s.recordPlain o h c src f).stormOf g = s.stormOf g := rfl
@[simp] theorem port_recordPlain (s : State) (o : WakeOutcome) (h : GroupId) (c : Cause) (src : Option Source) (f : Option FaultCause) (p : PortId) : (s.recordPlain o h c src f).port p = s.port p := rfl
@[simp] theorem params_recordPlain (s : State) (o : WakeOutcome) (h : GroupId) (c : Cause) (src : Option Source) (f : Option FaultCause) (g : GroupId) : (s.recordPlain o h c src f).params g = s.params g := rfl
@[simp] theorem activeBank_recordPlain (s : State) (o : WakeOutcome) (h : GroupId) (c : Cause) (src : Option Source) (f : Option FaultCause) : (s.recordPlain o h c src f).activeBank = s.activeBank := rfl
@[simp] theorem awake_recordPlain (s : State) (o : WakeOutcome) (h : GroupId) (c : Cause) (src : Option Source) (f : Option FaultCause) (q : PortId) : (s.recordPlain o h c src f).awake q = s.awake q := rfl
@[simp] theorem prospects_recordPlain (s : State) (o : WakeOutcome) (h : GroupId) (c : Cause) (src : Option Source) (f : Option FaultCause) (q : PortId) : (s.recordPlain o h c src f).prospects q = s.prospects q := rfl
@[simp] theorem stormOf_setGroup (s : State) (h : GroupId) (x : Group) (g : GroupId) : (s.setGroup h x).stormOf g = s.stormOf g := rfl
@[simp] theorem port_setGroup (s : State) (h : GroupId) (x : Group) (p : PortId) : (s.setGroup h x).port p = s.port p := rfl
@[simp] theorem params_setGroup (s : State) (h : GroupId) (x : Group) (g : GroupId) : (s.setGroup h x).params g = s.params g := rfl
@[simp] theorem activeBank_setGroup (s : State) (h : GroupId) (x : Group) : (s.setGroup h x).activeBank = s.activeBank := rfl

end Sys2Proof.Machine
end

