-- ==== Sys2Proof/Laws/Ports.lean ====
section
/-! SUPPORT. What counting, offering, flushing and making changes known do to a port. -/

namespace Sys2Proof.Machine

theorem counter_index_ne {c d : Counter} (h : d ≠ c) : d.index ≠ c.index := by
  cases c <;> cases d <;> simp_all [Counter.index]

theorem satAdd_le {limit a n : Nat} (h : a ≤ limit) : satAdd limit a n ≤ limit := by
  unfold satAdd; omega

theorem satAdd_eq (limit a n : Nat) : satAdd limit a n = max a (min limit (a + n)) := by
  unfold satAdd; omega

/-- `countBy` counts its counter and no other. -/
theorem counted_countBy (c : Counter) (n : Nat) (x : Port) : Counted c n x (countBy c n x) := by
  refine ⟨?_, fun d hd => ?_⟩
  · simp [countBy, portCounter, satAdd_eq, Config.counterMax]
  · simp [countBy, portCounter, vector_get_set_ne, counter_index_ne hd]

theorem portCounter_countBy_self (c : Counter) (n : Nat) (x : Port) :
    portCounter (countBy c n x) c = max (portCounter x c) (min 65535 (portCounter x c + n)) := (counted_countBy c n x).1

theorem portCounter_countBy_ne {c d : Counter} (n : Nat) (x : Port) (h : d ≠ c) :
    portCounter (countBy c n x) d = portCounter x d := (counted_countBy c n x).2 d h

theorem portCounter_congr {x y : Port} (h : x.counters = y.counters) (c : Counter) : portCounter x c = portCounter y c := by
  simp [portCounter, h]

theorem Counted.congr {c : Counter} {n : Nat} {x y z : Port} (h : Counted c n x y) (hz : y.counters = z.counters) :
    Counted c n x z := by
  simpa [Counted, portCounter, hz] using h

theorem onlyPort_setPort (p : PortId) (s : State) (x : Port) : OnlyPort p s (s.setPort p x) :=
  ⟨rfl, fun _ hq => port_setPort_ne s x hq⟩

@[simp] theorem countBy_state (c : Counter) (n : Nat) (x : Port) : (countBy c n x).state = x.state := rfl
@[simp] theorem countBy_queue (c : Counter) (n : Nat) (x : Port) : (countBy c n x).queue = x.queue := rfl
@[simp] theorem countBy_attempts (c : Counter) (n : Nat) (x : Port) : (countBy c n x).attempts = x.attempts := rfl
@[simp] theorem countBy_attempt (c : Counter) (n : Nat) (x : Port) : (countBy c n x).attempt = x.attempt := rfl
@[simp] theorem countBy_txErrors (c : Counter) (n : Nat) (x : Port) : (countBy c n x).txErrors = x.txErrors := rfl
@[simp] theorem countBy_rxErrors (c : Counter) (n : Nat) (x : Port) : (countBy c n x).rxErrors = x.rxErrors := rfl
@[simp] theorem countBy_waiting (c : Counter) (n : Nat) (x : Port) : (countBy c n x).waiting = x.waiting := rfl

/-- The port state after a change is made known is ACTIVE exactly when the port is awake. -/
theorem syncPort_active (b : Bool) (x : Port) : (syncPort b x).state = .active ↔ b = true := by
  unfold syncPort
  split <;> simp_all [flushPort]

/-- A port as `sync` leaves it. -/
theorem port_sync (s : State) (p : PortId) :
    s.sync.port p =
      if s.prospects p then syncPort (s.awake p) (s.port p)
      else countBy .holdDiscarded (s.heldFor p) (syncPort (s.awake p) (s.port p)) := by
  simp [State.sync, State.port]

theorem port_sync_state (s : State) (p : PortId) : (s.sync.port p).state = .active ↔ s.awake p = true := by
  rw [port_sync]
  split <;> simp [syncPort_active]

theorem PortsFollow.refl (s : State) : PortsFollow s s := ⟨fun _ => ⟨rfl, rfl, rfl, fun _ _ _ => rfl⟩, List.Sublist.refl _⟩

theorem PortsFollow.trans {s t u : State} (h : PortsFollow s t) (k : PortsFollow t u) : PortsFollow s u :=
  ⟨fun p => ⟨(k.1 p).1.trans (h.1 p).1, (k.1 p).2.1.trans (h.1 p).2.1, (k.1 p).2.2.1.trans (h.1 p).2.2.1,
    fun c hc hd => ((k.1 p).2.2.2 c hc hd).trans ((h.1 p).2.2.2 c hc hd)⟩, k.2.trans h.2⟩

/-- Two states with the same ports and hold queue. -/
theorem PortsFollow.of_eq {s t : State} (h : t.ports = s.ports) (k : t.hold = s.hold) : PortsFollow s t := by
  refine ⟨fun p => ?_, by rw [k]⟩
  have : t.port p = s.port p := by simp [State.port, h]
  simp [State.counter, this]

theorem syncPort_frame (b : Bool) (x : Port) :
    (syncPort b x).waiting = x.waiting ∧ (syncPort b x).txErrors = x.txErrors ∧ (syncPort b x).rxErrors = x.rxErrors ∧
    ∀ c : Counter, c ≠ .txUndelivered → portCounter (syncPort b x) c = portCounter x c := by
  unfold syncPort
  split
  · exact ⟨rfl, rfl, rfl, fun _ _ => rfl⟩
  · exact ⟨rfl, rfl, rfl, fun c hc => portCounter_countBy_ne _ _ hc⟩
  · exact ⟨rfl, rfl, rfl, fun _ _ => rfl⟩

/-- Making changes known does no more to ports and hold queue than such changes may. -/
theorem portsFollow_sync (s : State) : PortsFollow s s.sync := by
  refine ⟨fun p => ?_, List.filter_sublist⟩
  have h := syncPort_frame (s.awake p) (s.port p)
  unfold State.counter
  rw [port_sync]
  split
  · exact ⟨h.1, h.2.1, h.2.2.1, fun c hc _ => h.2.2.2 c hc⟩
  · exact ⟨h.1, h.2.1, h.2.2.1, fun c hc hd => (portCounter_countBy_ne _ _ hd).trans (h.2.2.2 c hc)⟩

theorem portsFollow_changeGroup (s : State) (g : GroupId) (x : Group) : PortsFollow s (s.changeGroup g x) :=
  (PortsFollow.of_eq rfl rfl : PortsFollow s (s.setGroup g x)).trans (portsFollow_sync _)

@[simp] theorem hold_sync (s : State) : s.sync.hold = s.hold.filter (fun e => s.prospects e.dest) := rfl

/-- Only the ports and the hold queue can change when a change is made known. -/
theorem sync_frame (s : State) : s.sync = { s with ports := s.sync.ports, hold := s.sync.hold } := rfl

/-- A group change changes that group, and else the ports and the hold queue alone. -/
theorem changeGroup_frame (s : State) (g : GroupId) (x : Group) :
    s.changeGroup g x =
      { s with groups := (s.setGroup g x).groups, ports := (s.changeGroup g x).ports, hold := (s.changeGroup g x).hold } := rfl

@[simp] theorem group_changeGroup_self (s : State) (g : GroupId) (x : Group) : (s.changeGroup g x).group g = x := by
  simp [State.changeGroup]

@[simp] theorem group_changeGroup_ne (s : State) {g h : GroupId} (x : Group) (hne : h ≠ g) :
    (s.changeGroup g x).group h = s.group h := by
  simp [State.changeGroup, hne]

@[simp] theorem store_changeGroup (s : State) (g : GroupId) (x : Group) : (s.changeGroup g x).store = s.store := rfl
@[simp] theorem lines_changeGroup (s : State) (g : GroupId) (x : Group) : (s.changeGroup g x).lines = s.lines := rfl
@[simp] theorem pg_changeGroup (s : State) (g : GroupId) (x : Group) : (s.changeGroup g x).pg = s.pg := rfl
@[simp] theorem mode_changeGroup (s : State) (g : GroupId) (x : Group) : (s.changeGroup g x).mode = s.mode := rfl
@[simp] theorem charge_changeGroup (s : State) (g : GroupId) (x : Group) : (s.changeGroup g x).charge = s.charge := rfl
@[simp] theorem storm_changeGroup (s : State) (g : GroupId) (x : Group) : (s.changeGroup g x).storm = s.storm := rfl
@[simp] theorem history_changeGroup (s : State) (g : GroupId) (x : Group) : (s.changeGroup g x).history = s.history := rfl
@[simp] theorem agent_changeGroup (s : State) (g : GroupId) (x : Group) : (s.changeGroup g x).agent = s.agent := rfl
@[simp] theorem pending_changeGroup (s : State) (g : GroupId) (x : Group) : (s.changeGroup g x).pending = s.pending := rfl
@[simp] theorem params_changeGroup (s : State) (h : GroupId) (x : Group) (g : GroupId) : (s.changeGroup h x).params g = s.params g := rfl
@[simp] theorem activeBank_changeGroup (s : State) (h : GroupId) (x : Group) : (s.changeGroup h x).activeBank = s.activeBank := rfl
@[simp] theorem stormOf_changeGroup (s : State) (h : GroupId) (x : Group) (g : GroupId) : (s.changeGroup h x).stormOf g = s.stormOf g := rfl

end Sys2Proof.Machine
end

