-- ==== Sys2Proof/Laws/Ops.lean ====
section
/-! SUPPORT. What each shared operation can do: which items it may change, and what it leaves at the group it acts on. -/

namespace Sys2Proof.Machine

/-! ### Frames -/

/-- A sequence of group transitions may change ports, hold queue, groups and history, and nothing else. -/
def GroupFrame (s t : State) : Prop :=
  t = { s with ports := t.ports, hold := t.hold, groups := t.groups, history := t.history }

/-- Taking a wake request may also change storm records and inrush pending. -/
def WakeFrame (s t : State) : Prop :=
  t = { s with ports := t.ports, hold := t.hold, groups := t.groups, history := t.history, storm := t.storm,
               charge := { s.charge with inrush := t.charge.inrush } }

theorem GroupFrame.refl (s : State) : GroupFrame s s := rfl

theorem GroupFrame.trans {s t u : State} (h : GroupFrame s t) (k : GroupFrame t u) : GroupFrame s u := by
  unfold GroupFrame at *
  rw [k]
  rw [h]

theorem WakeFrame.refl (s : State) : WakeFrame s s := rfl

theorem WakeFrame.trans {s t u : State} (h : WakeFrame s t) (k : WakeFrame t u) : WakeFrame s u := by
  unfold WakeFrame at *
  rw [k]
  rw [h]

theorem GroupFrame.wake {s t : State} (h : GroupFrame s t) : WakeFrame s t := by
  unfold WakeFrame
  rw [h]

/-- Steps over a list, each within a frame, stay within it. -/
theorem foldl_frame {α : Type} {R : State → State → Prop} (refl : ∀ s, R s s) (trans : ∀ {s t u}, R s t → R t u → R s u)
    {f : State → α → State} (h : ∀ s a, R s (f s a)) (l : List α) (s : State) : R s (l.foldl f s) := by
  induction l generalizing s with
  | nil => exact refl s
  | cons a l ih => exact trans (h s a) (ih (f s a))

theorem groupFrame_sync (s : State) : GroupFrame s s.sync := rfl

theorem groupFrame_setGroup (s : State) (g : GroupId) (x : Group) : GroupFrame s (s.setGroup g x) := rfl

theorem groupFrame_changeGroup (s : State) (g : GroupId) (x : Group) : GroupFrame s (s.changeGroup g x) := rfl

theorem groupFrame_recordPlain (s : State) (o : WakeOutcome) (g : GroupId) (c : Cause) (src : Option Source) (f : Option FaultCause) :
    GroupFrame s (s.recordPlain o g c src f) := rfl

theorem groupFrame_recordRequest (s : State) (o : WakeOutcome) (g : GroupId) (r : WakeRequest) :
    GroupFrame s (s.recordRequest o g r) := rfl

theorem groupFrame_enterOff (g : GroupId) (s : State) : GroupFrame s (enterOff g s) := rfl

theorem groupFrame_enterFault (g : GroupId) (c : FaultCause) (s : State) : GroupFrame s (enterFault g c s) := rfl

theorem groupFrame_enterUp (g : GroupId) (s : State) : GroupFrame s (enterUp g s) := rfl

theorem groupFrame_enterReleasing (g : GroupId) (s : State) : GroupFrame s (enterReleasing g s) := by
  unfold enterReleasing
  dsimp only
  split
  · rfl
  · split <;> rfl

theorem groupFrame_enterPowering (g : GroupId) (c : WakeClass) (s : State) : GroupFrame s (enterPowering g c s) := by
  unfold enterPowering
  dsimp only
  split
  · split
    · exact GroupFrame.trans (groupFrame_changeGroup s g _) (groupFrame_enterReleasing g _)
    · rfl
  · rfl

theorem groupFrame_enterDraining (g : GroupId) (s : State) : GroupFrame s (enterDraining g s) := by
  unfold enterDraining
  dsimp only
  split <;> rfl

theorem groupFrame_forceGroup (s : State) (g : GroupId) : GroupFrame s (forceGroup s g) := by
  unfold forceGroup
  split
  · split
    · rfl
    · exact (groupFrame_enterDraining g s).trans rfl
    · exact (groupFrame_enterDraining g s).trans rfl
    all_goals rfl
  · rfl

theorem groupFrame_exhaust (s : State) : GroupFrame s s.exhaust :=
  foldl_frame GroupFrame.refl GroupFrame.trans groupFrame_forceGroup allGroups s

theorem groupFrame_startLinger (g : GroupId) (n : Nat) (s : State) : GroupFrame s (startLinger g n s) := by
  unfold startLinger
  split <;> rfl

theorem wakeFrame_grantFromOff (r : WakeRequest) (g : GroupId) (s : State) : WakeFrame s (grantFromOff r g s) := by
  have h := (groupFrame_enterPowering g r.cls s).wake
  unfold grantFromOff
  dsimp only
  split
  · refine h.trans ?_
    unfold WakeFrame
    rfl
  · exact h.trans rfl
  · exact h.trans rfl

theorem wakeFrame_takeWakeGroup (r : WakeRequest) (g : GroupId) (s : State) : WakeFrame s (takeWakeGroup r g s).1 := by
  unfold takeWakeGroup
  dsimp only
  split
  · rfl
  · split
    · rfl
    · rfl
    · split
      · rfl
      · split
        · exact wakeFrame_grantFromOff r g s
        · rfl
    · rfl
    · rfl
    · split <;> rfl
    · split
      · exact ((groupFrame_setGroup s g _).trans (groupFrame_enterReleasing g _)).wake
      · rfl

theorem wakeFrame_takeWakeFrom (r : WakeRequest) (acc : State × GroupSet) (g : GroupId) :
    WakeFrame acc.1 (takeWakeFrom r acc g).1 := by
  unfold takeWakeFrom
  split
  · exact wakeFrame_takeWakeGroup r g acc.1
  · rfl

theorem wakeFrame_takeWake (r : WakeRequest) (s : State) : WakeFrame s (takeWake r s).1 := by
  have key : ∀ (l : List GroupId) (acc : State × GroupSet), WakeFrame acc.1 (l.foldl (takeWakeFrom r) acc).1 := by
    intro l
    induction l with
    | nil => intro acc; rfl
    | cons g l ih => intro acc; exact (wakeFrame_takeWakeFrom r acc g).trans (ih _)
  exact key allGroups (s, 0)

theorem wakeFrame_quietWake (s : State) (c : Cause) (src : Source) (i : Option Ident) : WakeFrame s (s.quietWake c src i) := by
  unfold State.quietWake
  split
  · rfl
  · exact wakeFrame_takeWake _ s

theorem wakeFrame_driveForceGroup (g : GroupId) (s : State) : WakeFrame s (driveForceGroup g s) := by
  unfold driveForceGroup
  split
  · exact wakeFrame_takeWakeGroup _ g s
  · exact wakeFrame_takeWakeGroup _ g s
  all_goals rfl

theorem wakeFrame_driveEntryGroup (s : State) (g : GroupId) : WakeFrame s (driveEntryGroup s g) := by
  have h : ∀ t, GroupFrame s t → WakeFrame s (if (t.params g).driveForced then driveForceGroup g t else t) := by
    intro t ht
    split
    · exact ht.wake.trans (wakeFrame_driveForceGroup g t)
    · exact ht.wake
  unfold driveEntryGroup
  dsimp only
  apply h
  split <;> rfl

/-! ### The passing of time -/

@[simp] theorem group_elapse (n : Nat) (s : State) (g : GroupId) : (s.elapse n).group g = groupPass n (s.group g) := by
  simp [State.elapse, State.group]

@[simp] theorem stormOf_elapse (n : Nat) (s : State) (g : GroupId) : (s.elapse n).stormOf g = stormPass n (s.stormOf g) := by
  simp [State.elapse, State.stormOf]

@[simp] theorem line_elapse (n : Nat) (s : State) (l : InputLine) : (s.elapse n).line l = linePass n (s.line l) := by
  cases l <;> simp [State.elapse, State.line]

@[simp] theorem port_elapse (n : Nat) (s : State) (p : PortId) : (s.elapse n).port p = s.port p := rfl
@[simp] theorem ports_elapse (n : Nat) (s : State) : (s.elapse n).ports = s.ports := rfl
@[simp] theorem store_elapse (n : Nat) (s : State) : (s.elapse n).store = s.store := rfl
@[simp] theorem pg_elapse (n : Nat) (s : State) : (s.elapse n).pg = s.pg := rfl
@[simp] theorem history_elapse (n : Nat) (s : State) : (s.elapse n).history = s.history := rfl
@[simp] theorem pending_elapse (n : Nat) (s : State) : (s.elapse n).pending = s.pending := rfl
@[simp] theorem params_elapse (n : Nat) (s : State) (g : GroupId) : (s.elapse n).params g = s.params g := rfl
@[simp] theorem activeBank_elapse (n : Nat) (s : State) : (s.elapse n).activeBank = s.activeBank := rfl
@[simp] theorem modeOf_elapse (n : Nat) (s : State) : (s.elapse n).mode.mode = s.mode.mode := rfl
@[simp] theorem configured_elapse (n : Nat) (s : State) : (s.elapse n).mode.configured = s.mode.configured := rfl
@[simp] theorem modeTime_elapse (n : Nat) (s : State) : (s.elapse n).mode.modeTime = s.mode.modeTime := rfl
@[simp] theorem bRem_elapse (n : Nat) (s : State) : (s.elapse n).charge.bRem = s.charge.bRem := rfl
@[simp] theorem agentState_elapse (n : Nat) (s : State) : (s.elapse n).agent.state = s.agent.state := rfl
@[simp] theorem state_groupPass (n : Nat) (x : Group) : (groupPass n x).state = x.state := rfl
@[simp] theorem grantClass_groupPass (n : Nat) (x : Group) : (groupPass n x).grantClass = x.grantClass := rfl
@[simp] theorem watch_groupPass (n : Nat) (x : Group) : (groupPass n x).watch = x.watch := rfl
@[simp] theorem lastFault_groupPass (n : Nat) (x : Group) : (groupPass n x).lastFault = x.lastFault := rfl

/-- Awakeness, prospects and conditions do not depend on timers. -/
@[simp] theorem awake_elapse (n : Nat) (s : State) (p : PortId) : (s.elapse n).awake p = s.awake p := by
  have h : ∀ g, (s.elapse n).groupWakes g p = s.groupWakes g p := by
    intro g
    simp only [State.groupWakes, group_elapse, state_groupPass, modeOf_elapse]
    rfl
  have hl : (s.elapse n).agent.linger.isSome = s.agent.linger.isSome := by simp [State.elapse, passTimer]
  simp only [State.awake, h, hl]

@[simp] theorem prospects_elapse (n : Nat) (s : State) (p : PortId) : (s.elapse n).prospects p = s.prospects p := by
  have h : ∀ g, (s.elapse n).boundPort g = s.boundPort g := fun _ => rfl
  simp only [State.prospects, group_elapse, state_groupPass, h]

/-! ### What a transition leaves at its group, and that it leaves the other groups alone -/

theorem group_enterOff_self (g : GroupId) (s : State) : (enterOff g s).group g = groupOff (s.group g) := by
  simp [enterOff]

theorem group_enterOff_ne {g h : GroupId} (s : State) (hne : h ≠ g) : (enterOff g s).group h = s.group h := by
  simp [enterOff, hne]

theorem group_enterFault_self (g : GroupId) (c : FaultCause) (s : State) :
    (enterFault g c s).group g = { groupOff (s.group g) with state := .fault, lastFault := some c } := by
  simp [enterFault]

theorem group_enterFault_ne {g h : GroupId} (c : FaultCause) (s : State) (hne : h ≠ g) :
    (enterFault g c s).group h = s.group h := by
  simp [enterFault, hne]

theorem group_enterUp_ne {g h : GroupId} (s : State) (hne : h ≠ g) : (enterUp g s).group h = s.group h := by
  simp [enterUp, hne]

theorem group_enterReleasing_ne {g h : GroupId} (s : State) (hne : h ≠ g) : (enterReleasing g s).group h = s.group h := by
  unfold enterReleasing
  dsimp only
  split
  · rw [group_enterFault_ne _ _ hne, group_changeGroup_ne _ _ hne]
  · split
    · rw [group_enterUp_ne _ hne, group_changeGroup_ne _ _ hne]
    · rw [group_changeGroup_ne _ _ hne]

theorem group_enterPowering_ne {g h : GroupId} (c : WakeClass) (s : State) (hne : h ≠ g) :
    (enterPowering g c s).group h = s.group h := by
  unfold enterPowering
  dsimp only
  split
  · split
    · rw [group_enterReleasing_ne _ hne, group_changeGroup_ne _ _ hne]
    · rw [group_changeGroup_ne _ _ hne]
  · rw [group_changeGroup_ne _ _ hne]

/-- A drain of 0 ms takes the group on to OFF in the same event (R81). -/
theorem group_enterDraining_self (g : GroupId) (s : State) :
    (enterDraining g s).group g =
      if (s.params g).drain = 0 then groupOff (s.group g)
      else { s.group g with state := .draining, timer := .drain (s.params g).drain } := by
  unfold enterDraining
  dsimp only
  split
  · rw [group_enterOff_self, group_changeGroup_self]
    rfl
  · rw [group_changeGroup_self]

theorem group_enterDraining_ne {g h : GroupId} (s : State) (hne : h ≠ g) : (enterDraining g s).group h = s.group h := by
  unfold enterDraining
  dsimp only
  split
  · rw [group_enterOff_ne _ hne, group_changeGroup_ne _ _ hne]
  · rw [group_changeGroup_ne _ _ hne]

theorem group_forceGroup_ne {g h : GroupId} (s : State) (hne : h ≠ g) : (forceGroup s g).group h = s.group h := by
  unfold forceGroup
  split
  · split
    · simp [group_enterOff_ne s hne]
    · simp [group_enterDraining_ne s hne]
    · simp [group_enterDraining_ne s hne]
    all_goals rfl
  · rfl

theorem group_startLinger_ne {g h : GroupId} (n : Nat) (s : State) (hne : h ≠ g) : (startLinger g n s).group h = s.group h := by
  unfold startLinger
  split
  · rw [group_setGroup_ne _ _ hne]
  · rfl

/-- A wake request taken for one group leaves every other group alone. -/
theorem group_takeWakeGroup_ne {g h : GroupId} (r : WakeRequest) (s : State) (hne : h ≠ g) :
    (takeWakeGroup r g s).1.group h = s.group h := by
  unfold takeWakeGroup
  dsimp only
  split
  · rfl
  · split
    · rfl
    · rfl
    · split
      · simp [quarantineGroup, hne]
      · split
        · unfold grantFromOff
          dsimp only
          split <;> simp only [group_recordRequest] <;> exact group_enterPowering_ne r.cls s hne
        · rfl
    · simp [hne]
    · simp [hne]
    · split
      · simp [hne]
      · rfl
    · split
      · rw [group_enterReleasing_ne _ hne, group_setGroup_ne _ _ hne]
      · rfl

/-- Steps over groups, of which each leaves the other groups alone, leave a group outside the list alone. -/
theorem group_foldl_of_notMem {f : State → GroupId → State} (hf : ∀ s g h, h ≠ g → (f s g).group h = s.group h)
    (l : List GroupId) (s : State) (h : GroupId) (hl : h ∉ l) : (l.foldl f s).group h = s.group h := by
  induction l generalizing s with
  | nil => rfl
  | cons a l ih =>
    rw [List.foldl_cons, ih _ (fun hm => hl (List.mem_cons_of_mem _ hm)),
      hf s a h (fun e => hl (by rw [e]; exact List.mem_cons_self))]

/-- Steps over groups, each leaving the other groups alone and each keeping `K`: what they leave at a named group is what its own step
leaves there, taken in a state with `K` that has the group as it was at the start. -/
theorem group_foldl {f : State → GroupId → State} {K : State → Prop} (hf : ∀ s g h, h ≠ g → (f s g).group h = s.group h)
    (hK : ∀ s g, K s → K (f s g)) (l : List GroupId) (hl : l.Nodup) (s : State) (hs : K s) (g : GroupId) (hm : g ∈ l) :
    ∃ u : State, K u ∧ u.group g = s.group g ∧ (l.foldl f s).group g = (f u g).group g := by
  induction l generalizing s with
  | nil => cases hm
  | cons a l ih =>
    rw [List.foldl_cons]
    by_cases e : g = a
    · subst e
      exact ⟨s, hs, rfl, group_foldl_of_notMem hf _ _ _ (List.nodup_cons.mp hl).1⟩
    · obtain ⟨u, h1, h2, h3⟩ := ih (List.nodup_cons.mp hl).2 (f s a) (hK s a hs) ((List.mem_cons.mp hm).resolve_left e)
      exact ⟨u, h1, by rw [h2, hf s a g e], h3⟩

/-! ### Sets built group by group -/

/-- A set into which each group goes by a test holds exactly the groups that pass it. -/
theorem getLsbD_foldl_groups (f : GroupId → Bool) (g : GroupId) :
    (allGroups.foldl (fun acc g => if f g then acc ||| (1#8 <<< g.val) else acc) (0 : GroupSet)).getLsbD g.val = f g := by
  have key : ∀ a b c d e h i j : Bool,
      (allGroups.foldl (fun (acc : GroupSet) (g : GroupId) =>
        if #v[a, b, c, d, e, h, i, j].get g then acc ||| (1#8 <<< g.val) else acc) 0).getLsbD g.val = #v[a, b, c, d, e, h, i, j].get g := by
    revert g
    decide
  have hf : f = fun g => #v[f 0, f 1, f 2, f 3, f 4, f 5, f 6, f 7].get g := by
    funext g
    fin_cases g <;> rfl
  have := key (f 0) (f 1) (f 2) (f 3) (f 4) (f 5) (f 6) (f 7)
  rw [hf]
  exact this

end Sys2Proof.Machine
end

