-- ==== Sys2Proof/Laws/Requests.lean ====
section
/-! SUPPORT. What taking a management request can do, and what each command's action can. -/

namespace Sys2Proof.Machine

/-! ### Taking and answering -/

/-- Taking a request changes the agent, and through the awakeness of port 0 ports and hold queue, and nothing else. -/
theorem beginRequest_frame (s : State) :
    beginRequest s =
      { s with agent := (beginRequest s).agent, ports := (beginRequest s).ports, hold := (beginRequest s).hold } := rfl

/-- The agent after a request is taken. -/
theorem agent_beginRequest (s : State) :
    (beginRequest s).agent =
      { s.agent with linger := some s.activeBank.mgmtLinger, request := none } := rfl

/-- The response goes to port 0 and changes nothing else. -/
theorem respond_eq (c : Byte) (a : Answer) :
    respond c a = a.state.setPort 0 (offerPort (responseFrame a.state c a.status a.results) (a.state.port 0)) := rfl

/-- A request's answer: a refusal that changes nothing, or what the action does (R149). -/
theorem answerRequest_cases (n : Nat) (g : Gate) (ok : List Byte → Bool) (act : List Byte → State → Answer) (args : List Byte)
    (s : State) :
    (∃ st, answerRequest n g ok act args s = refuse st s) ∨
    (n ≤ args.length + 1 ∧ gateOpen s g = true ∧ ok args = true ∧ answerRequest n g ok act args s = act args s) := by
  unfold answerRequest
  split
  · exact .inl ⟨_, rfl⟩
  · split
    · exact .inl ⟨_, rfl⟩
    · split
      · exact .inl ⟨_, rfl⟩
      · right
        refine ⟨by omega, by simpa using ‹¬(!gateOpen s g) = true›, by simpa using ‹¬(!ok args) = true›, rfl⟩

/-- What a request leaves: refused, the taking and the response alone; else what the action does between them. -/
theorem serve_cases (c : Byte) (n : Nat) (g : Gate) (ok : List Byte → Bool) (act : List Byte → State → Answer) (args : List Byte)
    (s : State) :
    ∃ u : State, u = beginRequest s ∧
      ((∃ st, serve c n g ok act args s = respond c (refuse st u)) ∨
       (n ≤ (args.take 7).length + 1 ∧ gateOpen s g = true ∧ ok (args.take 7) = true ∧
        serve c n g ok act args s = respond c (act (args.take 7) u))) := by
  refine ⟨_, rfl, ?_⟩
  have h := answerRequest_cases n g ok act (args.take 7) (beginRequest s)
  rcases h with ⟨st, h⟩ | ⟨h1, h2, h3, h⟩
  · exact .inl ⟨st, by unfold serve; dsimp only; rw [h]⟩
  · refine .inr ⟨h1, ?_, h3, by unfold serve; dsimp only; rw [h]⟩
    cases g <;> exact h2

/-- The response that a request is answered with, as eight data bytes (R147). -/
theorem respond_answered (c : Byte) (a : Answer) :
    respond c a = a.state.answered ((c :: statusCode a.status :: (a.results ++ List.replicate 6 0)).take 8) := rfl

theorem gateOpen_beginRequest (s : State) (g : Gate) : gateOpen (beginRequest s) g = gateOpen s g := by
  cases g <;> rfl

theorem gateOpen_extended (s : State) : gateOpen s .extended = true ↔ s.extendedOpen := by
  unfold gateOpen State.extendedOpen
  cases s.mode.mode <;> simp

/-- A request that is too short (R149 check 2). -/
theorem serve_short {c : Byte} {n : Nat} {g : Gate} {ok : List Byte → Bool} {act : List Byte → State → Answer} {args : List Byte}
    (s : State) (hl : args.length ≤ 7) (h : args.length + 1 < n) :
    serve c n g ok act args s = (beginRequest s).answered [c, 8, 0, 0, 0, 0, 0, 0] := by
  unfold serve answerRequest
  dsimp only
  rw [List.take_of_length_le hl, if_pos h]
  rfl

/-- A request that its gating does not let pass (R149 check 3, R150). -/
theorem serve_gated {c : Byte} {n : Nat} {g : Gate} {ok : List Byte → Bool} {act : List Byte → State → Answer} {args : List Byte}
    (s : State) (hl : args.length ≤ 7) (h : n ≤ args.length + 1) (hg : gateOpen s g = false) :
    serve c n g ok act args s = (beginRequest s).answered [c, 3, 0, 0, 0, 0, 0, 0] := by
  unfold serve answerRequest
  dsimp only
  rw [List.take_of_length_le hl, if_neg (by omega), gateOpen_beginRequest, hg]
  rfl

/-- A request with an argument out of its range (R149 check 4). -/
theorem serve_range {c : Byte} {n : Nat} {g : Gate} {ok : List Byte → Bool} {act : List Byte → State → Answer} {args : List Byte}
    (s : State) (hl : args.length ≤ 7) (h : n ≤ args.length + 1) (hg : gateOpen s g = true) (hr : ok args = false) :
    serve c n g ok act args s = (beginRequest s).answered [c, 6, 0, 0, 0, 0, 0, 0] := by
  unfold serve answerRequest
  dsimp only
  rw [List.take_of_length_le hl, if_neg (by omega), gateOpen_beginRequest, hg, hr]
  rfl

/-- A request that passes every check does its action and is answered with what the action answers (R149). -/
theorem serve_passes {c : Byte} {n : Nat} {g : Gate} {ok : List Byte → Bool} {act : List Byte → State → Answer} {args : List Byte}
    (s : State) (hl : args.length ≤ 7) (h : n ≤ args.length + 1) (hg : gateOpen s g = true) (hr : ok args = true) :
    serve c n g ok act args s = respond c (act args (beginRequest s)) := by
  unfold serve answerRequest
  dsimp only
  rw [List.take_of_length_le hl, if_neg (by omega), gateOpen_beginRequest, hg, hr]
  rfl

/-- An item that ports, hold queue and agent do not carry, and that the action keeps, is kept by a request. -/
theorem serve_keeps {α : Type} (φ : State → α) (hport : ∀ s p x, φ (s.setPort p x) = φ s)
    (hbegin : ∀ s, φ (beginRequest s) = φ s) {c : Byte} {n : Nat} {g : Gate} {ok : List Byte → Bool}
    {act : List Byte → State → Answer} (hact : ∀ a s, φ (act a s).state = φ s) (args : List Byte) (s : State) :
    φ (serve c n g ok act args s) = φ s := by
  obtain ⟨u, hu, ⟨st, h⟩ | ⟨-, -, -, h⟩⟩ := serve_cases c n g ok act args s
  · rw [h, respond_eq, hport, hu]
    exact hbegin s
  · rw [h, respond_eq, hport, hact, hu, hbegin]

/-! ### What the actions can change -/

theorem actReadCounters_frame (a : List Byte) (s : State) :
    (actReadCounters a s).state = { s with ports := (actReadCounters a s).state.ports } := by
  unfold actReadCounters
  dsimp only [answerOk]
  split <;> rfl

theorem actReadHistory_state (a : List Byte) (s : State) : (actReadHistory a s).state = s := by
  unfold actReadHistory
  split <;> rfl

theorem actReadTable_frame (a : List Byte) (s : State) :
    (actReadTable a s).state =
      { s with agent := { s.agent with latch := some (fetchSix (s.store.bankOf s.agent.pointer.role) s.agent.pointer),
                                       pointer := s.agent.pointer.advance 6 } } := by
  unfold actReadTable
  dsimp only
  split <;> rfl

theorem actWriteTable_frame (a : List Byte) (s : State) :
    (actWriteTable a s).state =
      { s with store := (actWriteTable a s).state.store, agent := (actWriteTable a s).state.agent } := by
  unfold actWriteTable
  split
  · rfl
  · split
    · rfl
    · dsimp only [answerOk]

theorem actAbort_frame (a : List Byte) (s : State) :
    (actAbort a s).state = { s with store := { s.store with standby := (actAbort a s).state.store.standby },
                                    agent := (actAbort a s).state.agent } := by
  unfold actAbort
  dsimp only
  split <;> rfl

theorem actVerify_frame (a : List Byte) (s : State) :
    (actVerify a s).state = { s with store := { s.store with standby := (actVerify a s).state.store.standby,
                                                             verifyFault := (actVerify a s).state.store.verifyFault },
                                     agent := (actVerify a s).state.agent } := by
  unfold actVerify
  split <;> rfl

theorem wakeFrame_actWake (a : List Byte) (s : State) : WakeFrame s (actWake a s).state := wakeFrame_takeWake _ s

theorem groupFrame_clearFaultGroup (set : GroupSet) (s : State) (g : GroupId) : GroupFrame s (clearFaultGroup set s g) := by
  unfold clearFaultGroup
  split <;> rfl

theorem groupFrame_actClearFault (a : List Byte) (s : State) : GroupFrame s (actClearFault a s).state :=
  foldl_frame GroupFrame.refl GroupFrame.trans (groupFrame_clearFaultGroup _) allGroups s

theorem wakeFrame_endQuarantine (c : Cause) (src : Option Source) (g : GroupId) (s : State) :
    WakeFrame s (endQuarantine c src g s) := rfl

theorem wakeFrame_releaseGroup (set : GroupSet) (s : State) (g : GroupId) : WakeFrame s (releaseGroup set s g) := by
  unfold releaseGroup
  split <;> rfl

theorem wakeFrame_actReleaseQuarantine (a : List Byte) (s : State) : WakeFrame s (actReleaseQuarantine a s).state :=
  foldl_frame WakeFrame.refl WakeFrame.trans (wakeFrame_releaseGroup _) allGroups s

end Sys2Proof.Machine
end

