-- ==== Sys2Proof/Laws/Events.lean ====
section
/-! SUPPORT. What a classification, a settlement, a mode entry and a swap can change. -/

namespace Sys2Proof.Machine

/-- Line monitor, power-good levels, rule store, management agent and the queue of commands stay as they are. -/
structure Keeps (s t : State) : Prop where
  store   : t.store = s.store
  lines   : t.lines = s.lines
  pg      : t.pg = s.pg
  agent   : t.agent = s.agent
  pending : t.pending = s.pending

theorem Keeps.refl (s : State) : Keeps s s := ⟨rfl, rfl, rfl, rfl, rfl⟩

theorem Keeps.trans {s t u : State} (h : Keeps s t) (k : Keeps t u) : Keeps s u :=
  ⟨k.store.trans h.store, k.lines.trans h.lines, k.pg.trans h.pg, k.agent.trans h.agent, k.pending.trans h.pending⟩

theorem WakeFrame.keeps {s t : State} (h : WakeFrame s t) : Keeps s t := by
  unfold WakeFrame at h
  constructor <;> rw [h]

theorem GroupFrame.keeps {s t : State} (h : GroupFrame s t) : Keeps s t := h.wake.keeps

theorem WakeFrame.mode {s t : State} (h : WakeFrame s t) : t.mode = s.mode := by
  unfold WakeFrame at h
  rw [h]

theorem WakeFrame.charge {s t : State} (h : WakeFrame s t) : t.charge = { s.charge with inrush := t.charge.inrush } := by
  unfold WakeFrame at h
  rw [h]

theorem GroupFrame.charge {s t : State} (h : GroupFrame s t) : t.charge = s.charge := by
  unfold GroupFrame at h
  rw [h]

theorem GroupFrame.mode {s t : State} (h : GroupFrame s t) : t.mode = s.mode := h.wake.mode

theorem GroupFrame.storm {s t : State} (h : GroupFrame s t) : t.storm = s.storm := by
  unfold GroupFrame at h
  rw [h]

/-! ### Forwarding changes ports and hold queue -/

/-- Offers and counts change ports and hold queue, and nothing else. -/
def TrafficFrame (s t : State) : Prop := t = { s with ports := t.ports, hold := t.hold }

theorem TrafficFrame.refl (s : State) : TrafficFrame s s := rfl

theorem TrafficFrame.trans {s t u : State} (h : TrafficFrame s t) (k : TrafficFrame t u) : TrafficFrame s u := by
  unfold TrafficFrame at *
  rw [k]
  rw [h]

theorem TrafficFrame.group {s t : State} (h : TrafficFrame s t) : GroupFrame s t := by
  unfold GroupFrame
  rw [h]

theorem trafficFrame_holdFrame (s : State) (p : PortId) (f : Frame) (rule : Option Nat) : TrafficFrame s (s.holdFrame p f rule) := by
  unfold State.holdFrame
  split <;> rfl

theorem trafficFrame_forwardTo (f : Frame) (hold : Bool) (rule : Option Nat) (s : State) (p : PortId) :
    TrafficFrame s (forwardTo f hold rule s p) := by
  unfold forwardTo
  split
  · rfl
  · split
    · exact trafficFrame_holdFrame s p f rule
    · split
      · exact trafficFrame_holdFrame s p f rule
      · rfl

theorem trafficFrame_routeTo (f : Frame) (s : State) (p : PortId) : TrafficFrame s (routeTo f s p) := by
  unfold routeTo
  split
  · split
    · exact trafficFrame_holdFrame s p f none
    · rfl
  · rfl

theorem trafficFrame_fallbackTo (f : Frame) (s : State) (p : PortId) : TrafficFrame s (fallbackTo f s p) := by
  unfold fallbackTo
  split <;> rfl

/-! ### The charge account -/

/-- The level alone is recomputed. -/
theorem relevel_frame (a : ChargeAccount) : relevel a = { a with level := (relevel a).level } := by
  unfold relevel
  split <;> rfl

/-- A change of the account, announced or not, leaves the account that it makes. -/
theorem announce_cases (s : State) (a : ChargeAccount) :
    GroupFrame { s with charge := a } (s.announce a) := by
  unfold State.announce
  dsimp only
  split
  · exact groupFrame_exhaust _
  · rfl

theorem keeps_announce (s : State) (a : ChargeAccount) : Keeps s (s.announce a) :=
  Keeps.trans (t := { s with charge := a }) ⟨rfl, rfl, rfl, rfl, rfl⟩ (announce_cases s a).keeps

theorem charge_announce (s : State) (a : ChargeAccount) : (s.announce a).charge = a := (announce_cases s a).charge

theorem mode_announce (s : State) (a : ChargeAccount) : (s.announce a).mode = s.mode := (announce_cases s a).mode

theorem storm_announce (s : State) (a : ChargeAccount) : (s.announce a).storm = s.storm := (announce_cases s a).storm

/-- A battery report moves charge from B_rem to cut and touches no other quantity but the level (R128). -/
structure ReportMoves (a b : ChargeAccount) : Prop where
  pActive : b.pActive = a.pActive
  spent   : b.spent = a.spent
  bRem    : b.bRem ≤ a.bRem
  sum     : b.bRem + b.cut = a.bRem + a.cut
  timer   : b.timer = a.timer
  loaded  : b.loaded = a.loaded

theorem ReportMoves.refl (a : ChargeAccount) : ReportMoves a a := ⟨rfl, rfl, Nat.le_refl _, rfl, rfl, rfl⟩

theorem ReportMoves.trans {a b c : ChargeAccount} (h : ReportMoves a b) (k : ReportMoves b c) : ReportMoves a c :=
  ⟨k.pActive.trans h.pActive, k.spent.trans h.spent, k.bRem.trans h.bRem, k.sum.trans h.sum, k.timer.trans h.timer,
   k.loaded.trans h.loaded⟩

theorem reportMoves_reportAccount (v : Nat) (a : ChargeAccount) : ReportMoves a (reportAccount v a) := by
  unfold reportAccount
  split
  · rw [relevel_frame]
    exact ⟨rfl, rfl, by dsimp only; omega, by dsimp only; omega, rfl, rfl⟩
  · rw [relevel_frame]
    exact ⟨rfl, rfl, Nat.le_refl _, rfl, rfl, rfl⟩

theorem takeReport_cases (s : State) (v : Option Nat) :
    s.takeReport v = s ∨ ∃ n, s.mode.mode = .parked ∧ v = some n ∧ s.takeReport v = s.announce (reportAccount n s.charge) := by
  unfold State.takeReport
  split
  · split
    · exact .inl rfl
    · exact .inr ⟨_, ‹_›, rfl, rfl⟩
  · exact .inl rfl

/-- What reports can change: they keep mode and storm records too. -/
structure ReportKeeps (s t : State) : Prop where
  keeps  : Keeps s t
  mode   : t.mode = s.mode
  storm  : t.storm = s.storm
  charge : ReportMoves s.charge t.charge

theorem ReportKeeps.refl (s : State) : ReportKeeps s s := ⟨Keeps.refl s, rfl, rfl, ReportMoves.refl _⟩

theorem ReportKeeps.trans {s t u : State} (h : ReportKeeps s t) (k : ReportKeeps t u) : ReportKeeps s u :=
  ⟨h.keeps.trans k.keeps, k.mode.trans h.mode, k.storm.trans h.storm, h.charge.trans k.charge⟩

theorem reportKeeps_takeReport (s : State) (v : Option Nat) : ReportKeeps s (s.takeReport v) := by
  rcases takeReport_cases s v with h | ⟨n, -, -, h⟩
  · rw [h]
    exact ReportKeeps.refl s
  · rw [h]
    refine ⟨keeps_announce s _, mode_announce s _, storm_announce s _, ?_⟩
    rw [charge_announce]
    exact reportMoves_reportAccount n s.charge

/-- What a classification can change. -/
structure ClassifyKeeps (s t : State) : Prop where
  keeps  : Keeps s t
  mode   : t.mode = s.mode
  charge : ReportMoves s.charge t.charge

theorem ClassifyKeeps.trans {s t u : State} (h : ClassifyKeeps s t) (k : ClassifyKeeps t u) : ClassifyKeeps s u :=
  ⟨h.keeps.trans k.keeps, k.mode.trans h.mode, h.charge.trans k.charge⟩

theorem WakeFrame.classify {s t : State} (h : WakeFrame s t) : ClassifyKeeps s t := by
  refine ⟨h.keeps, h.mode, ?_⟩
  rw [h.charge]
  exact ⟨rfl, rfl, Nat.le_refl _, rfl, rfl, rfl⟩

theorem TrafficFrame.classify {s t : State} (h : TrafficFrame s t) : ClassifyKeeps s t := h.group.wake.classify

theorem classifyKeeps_applyMatched (src : PortId) (f : Frame) (w : WorkingRecord) (s : State) :
    ClassifyKeeps s (applyMatched src f w s) := by
  unfold applyMatched
  dsimp only
  have h1 := foldl_frame ReportKeeps.refl ReportKeeps.trans (f := fun (t : State) (o : Nat) => t.takeReport (reportValue f.data o))
    (fun t o => reportKeeps_takeReport t _) w.reports s
  refine ClassifyKeeps.trans ⟨h1.keeps, h1.mode, h1.charge⟩ (ClassifyKeeps.trans (wakeFrame_takeWake (frameRequest src f w) _).classify ?_)
  exact (foldl_frame TrafficFrame.refl TrafficFrame.trans (trafficFrame_forwardTo f w.hold w.rule) _ _).classify

theorem classifyKeeps_classifyFrame (src : PortId) (f : Frame) (s : State) : ClassifyKeeps s (classifyFrame src f s) := by
  have h1 : ∀ (l : List PortId) (t : State), TrafficFrame t (l.foldl (fallbackTo f) t) :=
    foldl_frame TrafficFrame.refl TrafficFrame.trans (trafficFrame_fallbackTo f)
  have h2 : ∀ (l : List PortId) (t : State), TrafficFrame t (l.foldl (routeTo f) t) :=
    foldl_frame TrafficFrame.refl TrafficFrame.trans (trafficFrame_routeTo f)
  have h3 : TrafficFrame s (s.count src .rxBlocked) := rfl
  unfold classifyFrame
  split
  · exact (wakeFrame_quietWake _ _ _ _).classify.trans (h1 _ _).classify
  all_goals
    dsimp only
    split
    · exact h3.classify
    · split
      · exact (h2 _ _).classify
      · exact classifyKeeps_applyMatched src f _ s

/-! ### Settlement -/

/-- A settlement moves charge from B_rem to spent (R120). -/
structure SettleMoves (a b : ChargeAccount) : Prop where
  pActive : b.pActive = a.pActive
  cut     : b.cut = a.cut
  bRem    : b.bRem ≤ a.bRem
  sum     : b.bRem + b.spent = a.bRem + a.spent
  loaded  : b.loaded = a.loaded

theorem settleMoves_settleAccount (m : Memory) (t : Nat) (a : ChargeAccount) : SettleMoves a (settleAccount m t a) := by
  unfold settleAccount
  dsimp only
  rw [relevel_frame]
  exact ⟨rfl, rfl, by dsimp only; omega, by dsimp only; omega, rfl⟩

/-! ### Outside PARKED -/

theorem groupFrame_grantFromOff (r : WakeRequest) (g : GroupId) (s : State) (h : s.mode.mode ≠ .parked) :
    GroupFrame s (grantFromOff r g s) := by
  unfold grantFromOff
  dsimp only
  split
  · exact absurd ‹_› h
  · exact (groupFrame_enterPowering g r.cls s).trans rfl
  · exact (groupFrame_enterPowering g r.cls s).trans rfl

/-- Outside PARKED a wake request touches neither the charge account nor the storm records (R119, R127, R132). -/
theorem groupFrame_takeWakeGroup (r : WakeRequest) (g : GroupId) (s : State) (h : s.mode.mode ≠ .parked) :
    GroupFrame s (takeWakeGroup r g s).1 := by
  have hs : stormPasses g s = true := by
    unfold stormPasses
    split <;> simp_all
  unfold takeWakeGroup
  dsimp only
  split
  · rfl
  · split
    · rfl
    · rfl
    · rw [if_neg (by rw [hs]; decide)]
      split
      · exact groupFrame_grantFromOff r g s h
      · rfl
    · rfl
    · rfl
    · split <;> rfl
    · split
      · exact (groupFrame_setGroup s g _).trans (groupFrame_enterReleasing g _)
      · rfl

theorem groupFrame_driveForceGroup (g : GroupId) (s : State) (h : s.mode.mode ≠ .parked) : GroupFrame s (driveForceGroup g s) := by
  unfold driveForceGroup
  split
  · exact groupFrame_takeWakeGroup _ g s h
  · exact groupFrame_takeWakeGroup _ g s h
  all_goals rfl

theorem groupFrame_driveEntryGroup (s : State) (g : GroupId) (h : s.mode.mode ≠ .parked) : GroupFrame s (driveEntryGroup s g) := by
  have key : ∀ t : State, GroupFrame s t → GroupFrame s (if (t.params g).driveForced then driveForceGroup g t else t) := by
    intro t ht
    split
    · exact ht.trans (groupFrame_driveForceGroup g t (by rw [ht.mode]; exact h))
    · exact ht
  unfold driveEntryGroup
  dsimp only
  apply key
  split <;> rfl

theorem group_driveForceGroup_ne {g h : GroupId} (s : State) (hne : h ≠ g) : (driveForceGroup g s).group h = s.group h := by
  unfold driveForceGroup
  split
  · exact group_takeWakeGroup_ne _ s hne
  · exact group_takeWakeGroup_ne _ s hne
  all_goals simp [hne]

theorem group_driveEntryGroup_ne (s : State) (g h : GroupId) (hne : h ≠ g) : (driveEntryGroup s g).group h = s.group h := by
  have key : ∀ t : State, t.group h = s.group h →
      (if (t.params g).driveForced then driveForceGroup g t else t).group h = s.group h := by
    intro t ht
    split
    · rw [group_driveForceGroup_ne t hne, ht]
    · exact ht
  unfold driveEntryGroup
  dsimp only
  apply key
  split
  · exact group_enterOff_ne s hne
  · exact group_enterOff_ne s hne
  all_goals rfl

/-! ### Mode entries -/

theorem finalSettlement_frame (s : State) : finalSettlement s = { s with charge := (finalSettlement s).charge } := by
  unfold finalSettlement
  split <;> rfl

/-- The state in which a DRIVE entry comes to the groups (R104). -/
theorem driveEntry_cases (s : State) :
    ∃ u : State, Keeps s u ∧ u.groups = s.groups ∧ u.history = s.history ∧
      u.mode = { s.mode with mode := .drive, modeTime := 0, secondLeft := 1000, parkSettle := none } ∧
      u.storm = tabGroups (fun _ => StormRecord.atPowerOn) ∧
      (s.mode.mode = .parked → u.charge = (finalSettlement s).charge) ∧
      (s.mode.mode ≠ .parked → u.charge = s.charge) ∧
      driveEntry s = allGroups.foldl driveEntryGroup u := by
  cases hm : s.mode.mode
  case parked =>
    let v : State := { s with mode := { s.mode with mode := .drive, modeTime := 0, secondLeft := 1000, parkSettle := none } }
    refine ⟨{ finalSettlement v.sync with storm := tabGroups (fun _ => StormRecord.atPowerOn) }, ?_, ?_, ?_, ?_, rfl, ?_, ?_, ?_⟩
    · rw [finalSettlement_frame]
      exact ⟨rfl, rfl, rfl, rfl, rfl⟩
    · rw [finalSettlement_frame]
      rfl
    · rw [finalSettlement_frame]
      rfl
    · rw [finalSettlement_frame]
      rfl
    · intro _
      show (finalSettlement v.sync).charge = _
      have hc : v.sync.charge = s.charge := rfl
      have hb : v.sync.activeBank = s.activeBank := rfl
      unfold finalSettlement
      rw [hc, hb]
      cases s.charge.timer <;> rfl
    · intro h
      exact absurd rfl h
    · unfold driveEntry
      dsimp only
      rw [hm]
  all_goals
    let v : State := { s with mode := { s.mode with mode := .drive, modeTime := 0, secondLeft := 1000, parkSettle := none } }
    refine ⟨{ v.sync with storm := tabGroups (fun _ => StormRecord.atPowerOn) }, ⟨rfl, rfl, rfl, rfl, rfl⟩, rfl, rfl, rfl, rfl, ?_,
      fun _ => rfl, ?_⟩
    · intro h
      cases h
    · unfold driveEntry
      dsimp only
      rw [hm]

theorem driveEntry_keeps (s : State) : Keeps s (driveEntry s) := by
  obtain ⟨u, hk, -, -, -, -, -, -, h⟩ := driveEntry_cases s
  rw [h]
  exact hk.trans (foldl_frame WakeFrame.refl WakeFrame.trans wakeFrame_driveEntryGroup _ _).keeps

theorem driveEntry_mode (s : State) :
    (driveEntry s).mode = { s.mode with mode := .drive, modeTime := 0, secondLeft := 1000, parkSettle := none } := by
  obtain ⟨u, -, -, -, hm, -, -, -, h⟩ := driveEntry_cases s
  rw [h, (foldl_frame WakeFrame.refl WakeFrame.trans wakeFrame_driveEntryGroup _ _).mode, hm]

theorem groupFrame_parkedEntryGroup (s : State) (g : GroupId) : GroupFrame s (parkedEntryGroup s g) := by
  unfold parkedEntryGroup
  split
  · exact groupFrame_startLinger _ _ _
  · rfl

theorem parkedEntry_keeps (s : State) : Keeps s (parkedEntry s) := by
  unfold parkedEntry
  dsimp only
  refine Keeps.trans ?_ (foldl_frame GroupFrame.refl GroupFrame.trans groupFrame_parkedEntryGroup _ _).keeps
  split
  · refine Keeps.trans ?_ (groupFrame_exhaust _).keeps
    exact ⟨rfl, rfl, rfl, rfl, rfl⟩
  · exact ⟨rfl, rfl, rfl, rfl, rfl⟩

theorem parkedEntry_mode (s : State) :
    (parkedEntry s).mode =
      { s.mode with mode := .parked, modeTime := 0, secondLeft := 1000, parkSettle := some (s.activeBank.parkSettle * 1000) } := by
  unfold parkedEntry
  dsimp only
  rw [(foldl_frame GroupFrame.refl GroupFrame.trans groupFrame_parkedEntryGroup _ _).mode]
  split
  · rw [(groupFrame_exhaust _).mode]
    rfl
  · rfl

theorem parkedEntry_charge (s : State) : (parkedEntry s).charge = parkAccount s.activeBank s.charge := by
  unfold parkedEntry
  dsimp only
  rw [(foldl_frame GroupFrame.refl GroupFrame.trans groupFrame_parkedEntryGroup _ _).charge]
  split
  · rw [(groupFrame_exhaust _).charge]
    rfl
  · rfl

/-! ### The swap -/

theorem wakeFrame_clearAbsentGroup (s : State) (g : GroupId) : WakeFrame s (clearAbsentGroup s g) := by
  unfold clearAbsentGroup
  split <;> rfl

theorem wakeFrame_changeForced (old : Memory) (s : State) (g : GroupId) : WakeFrame s (changeForced old s g) := by
  unfold changeForced
  split
  · exact wakeFrame_driveForceGroup g s
  · exact (groupFrame_startLinger _ _ _).wake
  all_goals rfl

theorem wakeFrame_laterSwap (old : Memory) (s : State) : WakeFrame s (laterSwap old s) := by
  have h : WakeFrame s (allGroups.foldl clearAbsentGroup s.sync) :=
    (groupFrame_sync s).wake.trans (foldl_frame WakeFrame.refl WakeFrame.trans wakeFrame_clearAbsentGroup _ _)
  unfold laterSwap
  dsimp only
  split
  · exact h.trans (foldl_frame WakeFrame.refl WakeFrame.trans (wakeFrame_changeForced old) _ _)
  all_goals exact h

theorem groupFrame_startFallbackLinger (s : State) (g : GroupId) : GroupFrame s (startFallbackLinger s g) := by
  unfold startFallbackLinger
  split
  · exact groupFrame_startLinger _ _ _
  · rfl

/-- The state in which the first swap makes its mode entry (R99 steps 1 and 2). -/
theorem firstSwap_cases (s : State) :
    ∃ u : State, WakeFrame { s with mode := { s.mode with configured := true } } u ∧
      firstSwap s = if s.lines.ign.level then driveEntry u else parkedEntry u := by
  let t : State := { s with mode := { s.mode with configured := true } }
  have h : WakeFrame t (allGroups.foldl startFallbackLinger (allGroups.foldl clearAbsentGroup t)) :=
    (foldl_frame WakeFrame.refl WakeFrame.trans wakeFrame_clearAbsentGroup _ _).trans
      (foldl_frame GroupFrame.refl GroupFrame.trans groupFrame_startFallbackLinger _ _).wake
  refine ⟨_, h, ?_⟩
  unfold firstSwap
  dsimp only
  have hl := h.keeps.lines
  rw [hl]

theorem firstSwap_keeps (s : State) : Keeps s (firstSwap s) := by
  obtain ⟨u, hu, h⟩ := firstSwap_cases s
  have hk : Keeps s u := Keeps.trans (t := { s with mode := { s.mode with configured := true } }) ⟨rfl, rfl, rfl, rfl, rfl⟩ hu.keeps
  rw [h]
  split
  · exact hk.trans (driveEntry_keeps u)
  · exact hk.trans (parkedEntry_keeps u)

/-- A swap changes the role flag, the standby state and the agent's state and bound, and in the other blocks what the new table
brings. -/
theorem takeSwap_keeps (s : State) : Keeps (exchangeBanks s) (takeSwap s) := by
  unfold takeSwap
  dsimp only
  split
  · exact (wakeFrame_laterSwap _ _).keeps
  · exact firstSwap_keeps _

end Sys2Proof.Machine
end

