-- ==== Sys2Proof/Laws/Follow.lean ====
section
/-! SUPPORT. Ports and hold queue only follow what groups, awakeness and prospects do (`PortsFollow`), operation by operation. -/

namespace Sys2Proof.Machine

/-- A change of other blocks than ports and hold queue is followed by nothing. -/
theorem PortsFollow.of_frame {s t u : State} (h : PortsFollow s t) (hp : u.ports = t.ports) (hh : u.hold = t.hold) :
    PortsFollow s u := h.trans (PortsFollow.of_eq hp hh)

theorem portsFollow_setGroup (s : State) (g : GroupId) (x : Group) : PortsFollow s (s.setGroup g x) := PortsFollow.of_eq rfl rfl

theorem portsFollow_enterOff (g : GroupId) (s : State) : PortsFollow s (enterOff g s) := portsFollow_changeGroup s g _

theorem portsFollow_enterFault (g : GroupId) (c : FaultCause) (s : State) : PortsFollow s (enterFault g c s) :=
  (portsFollow_changeGroup s g _).of_frame rfl rfl

theorem portsFollow_enterUp (g : GroupId) (s : State) : PortsFollow s (enterUp g s) := portsFollow_changeGroup s g _

theorem portsFollow_enterReleasing (g : GroupId) (s : State) : PortsFollow s (enterReleasing g s) := by
  unfold enterReleasing
  dsimp only
  have h := fun x => portsFollow_changeGroup s g x
  split
  · exact (h _).trans (portsFollow_enterFault g .pgLost _)
  · split
    · exact (h _).trans (portsFollow_enterUp g _)
    · exact h _

theorem portsFollow_enterPowering (g : GroupId) (c : WakeClass) (s : State) : PortsFollow s (enterPowering g c s) := by
  unfold enterPowering
  dsimp only
  have h := fun x => portsFollow_changeGroup s g x
  split
  · split
    · exact (h _).trans (portsFollow_enterReleasing g _)
    · exact h _
  · exact h _

theorem portsFollow_enterDraining (g : GroupId) (s : State) : PortsFollow s (enterDraining g s) := by
  unfold enterDraining
  dsimp only
  have h := fun x => portsFollow_changeGroup s g x
  split
  · exact (h _).trans (portsFollow_enterOff g _)
  · exact h _

theorem portsFollow_forceGroup (s : State) (g : GroupId) : PortsFollow s (forceGroup s g) := by
  unfold forceGroup
  split
  · split
    · exact (portsFollow_enterOff g s).of_frame rfl rfl
    · exact (portsFollow_enterDraining g s).of_frame rfl rfl
    · exact (portsFollow_enterDraining g s).of_frame rfl rfl
    all_goals exact PortsFollow.refl s
  · exact PortsFollow.refl s

theorem portsFollow_exhaust (s : State) : PortsFollow s s.exhaust :=
  foldl_frame PortsFollow.refl PortsFollow.trans portsFollow_forceGroup allGroups s

theorem portsFollow_announce (s : State) (a : ChargeAccount) : PortsFollow s (s.announce a) := by
  unfold State.announce
  dsimp only
  have h : PortsFollow s { s with charge := a } := PortsFollow.of_eq rfl rfl
  split
  · exact h.trans (portsFollow_exhaust _)
  · exact h

theorem portsFollow_takeReport (s : State) (v : Option Nat) : PortsFollow s (s.takeReport v) := by
  rcases takeReport_cases s v with h | ⟨n, -, -, h⟩
  · rw [h]
    exact PortsFollow.refl s
  · rw [h]
    exact portsFollow_announce s _

theorem portsFollow_grantFromOff (r : WakeRequest) (g : GroupId) (s : State) : PortsFollow s (grantFromOff r g s) := by
  unfold grantFromOff
  dsimp only
  split <;> exact (portsFollow_enterPowering g r.cls s).of_frame rfl rfl

/-- A wake request taken for one group. -/
theorem portsFollow_takeWakeGroup (r : WakeRequest) (g : GroupId) (s : State) : PortsFollow s (takeWakeGroup r g s).1 := by
  unfold takeWakeGroup
  dsimp only
  split
  · exact PortsFollow.refl s
  · split
    · exact PortsFollow.of_eq rfl rfl
    · exact PortsFollow.of_eq rfl rfl
    · split
      · exact PortsFollow.trans (t := s.setStorm g _) (PortsFollow.of_eq rfl rfl) ((portsFollow_changeGroup _ g _).of_frame rfl rfl)
      · split
        · exact portsFollow_grantFromOff r g s
        · exact PortsFollow.of_eq rfl rfl
    · exact portsFollow_setGroup s g _
    · exact portsFollow_setGroup s g _
    · split
      · exact portsFollow_setGroup s g _
      · exact PortsFollow.refl s
    · split
      · exact (portsFollow_setGroup s g _).trans (portsFollow_enterReleasing g _)
      · exact PortsFollow.of_eq rfl rfl

/-- `takeWake` takes the named groups in ascending order (R84). -/
theorem takeWakeFrom_fold (r : WakeRequest) (l : List GroupId) (acc : State × GroupSet) :
    (l.foldl (takeWakeFrom r) acc).1 =
      (l.filter (fun g : GroupId => r.set.getLsbD g.val)).foldl (fun t g => (takeWakeGroup r g t).1) acc.1 := by
  induction l generalizing acc with
  | nil => rfl
  | cons g l ih =>
    rw [List.foldl_cons, ih, List.filter_cons]
    unfold takeWakeFrom
    split <;> rfl

theorem takeWake_state (r : WakeRequest) (s : State) :
    (takeWake r s).1 =
      (allGroups.filter (fun g : GroupId => r.set.getLsbD g.val)).foldl (fun t g => (takeWakeGroup r g t).1) s :=
  takeWakeFrom_fold r allGroups (s, 0)

theorem portsFollow_takeWake (r : WakeRequest) (s : State) : PortsFollow s (takeWake r s).1 := by
  rw [takeWake_state]
  exact foldl_frame PortsFollow.refl PortsFollow.trans (fun t g => portsFollow_takeWakeGroup r g t) _ s

/-- A group that a wake request does not name stays as it is. -/
theorem group_takeWake_of_notNamed (r : WakeRequest) (s : State) {g : GroupId} (h : r.set.getLsbD g.val = false) :
    (takeWake r s).1.group g = s.group g := by
  rw [takeWake_state]
  exact group_foldl_of_notMem (fun t k _ hne => group_takeWakeGroup_ne r t hne) _ s g
    (fun hm => by simp_all [List.mem_filter])

theorem portsFollow_quietWake (s : State) (c : Cause) (src : Source) (i : Option Ident) : PortsFollow s (s.quietWake c src i) := by
  unfold State.quietWake
  split
  · exact PortsFollow.refl s
  · exact portsFollow_takeWake _ s

theorem portsFollow_startLinger (g : GroupId) (n : Nat) (s : State) : PortsFollow s (startLinger g n s) := by
  unfold startLinger
  split
  · exact portsFollow_setGroup s g _
  · exact PortsFollow.refl s

theorem portsFollow_driveForceGroup (g : GroupId) (s : State) : PortsFollow s (driveForceGroup g s) := by
  unfold driveForceGroup
  split
  · exact portsFollow_takeWakeGroup _ g s
  · exact portsFollow_takeWakeGroup _ g s
  · exact portsFollow_setGroup s g _
  · exact portsFollow_setGroup s g _
  · exact portsFollow_setGroup s g _
  · exact PortsFollow.refl s
  · exact PortsFollow.refl s

theorem portsFollow_driveEntryGroup (s : State) (g : GroupId) : PortsFollow s (driveEntryGroup s g) := by
  unfold driveEntryGroup
  dsimp only
  cases (s.group g).state
  all_goals
    dsimp only
    split
  all_goals first
    | exact portsFollow_driveForceGroup g s
    | exact (portsFollow_enterOff g s).trans (portsFollow_driveForceGroup g _)
    | exact portsFollow_enterOff g s
    | exact PortsFollow.refl s

/-- A change of the mode alone, made known. -/
theorem portsFollow_setMode (s : State) (m : ModeController) : PortsFollow s ({ s with mode := m } : State).sync :=
  PortsFollow.trans (t := { s with mode := m }) (PortsFollow.of_eq rfl rfl) (portsFollow_sync _)

/-- Taking a request makes port 0 awake and does no more to ports and hold queue than that may. -/
theorem portsFollow_beginRequest (s : State) : PortsFollow s (beginRequest s) :=
  PortsFollow.trans (t := { s with agent := { s.agent with request := none, linger := some s.activeBank.mgmtLinger } })
    (PortsFollow.of_eq rfl rfl) (portsFollow_sync _)

theorem portsFollow_driveEntry (s : State) : PortsFollow s (driveEntry s) := by
  have h := portsFollow_setMode s { s.mode with mode := .drive, modeTime := 0, secondLeft := 1000, parkSettle := none }
  have k : ∀ t : State, PortsFollow s t → PortsFollow s (allGroups.foldl driveEntryGroup t) := fun t ht =>
    ht.trans (foldl_frame PortsFollow.refl PortsFollow.trans portsFollow_driveEntryGroup allGroups t)
  unfold driveEntry
  apply k
  cases s.mode.mode
  case parked =>
    dsimp only
    rw [finalSettlement_frame]
    exact h.of_frame rfl rfl
  all_goals exact h.of_frame rfl rfl

theorem portsFollow_parkedEntryGroup (s : State) (g : GroupId) : PortsFollow s (parkedEntryGroup s g) := by
  unfold parkedEntryGroup
  split
  · exact portsFollow_startLinger g _ s
  · exact PortsFollow.refl s

theorem portsFollow_parkedEntry (s : State) : PortsFollow s (parkedEntry s) := by
  have h := portsFollow_setMode s
    { s.mode with mode := .parked, modeTime := 0, secondLeft := 1000, parkSettle := some (s.activeBank.parkSettle * 1000) }
  have k : ∀ t : State, PortsFollow s t →
      PortsFollow s (allGroups.foldl parkedEntryGroup (if t.charge.pActive = 0 then t.exhaust else t)) := fun t ht => by
    refine PortsFollow.trans ?_ (foldl_frame PortsFollow.refl PortsFollow.trans portsFollow_parkedEntryGroup allGroups _)
    split
    · exact ht.trans (portsFollow_exhaust t)
    · exact ht
  unfold parkedEntry
  apply k
  exact h.of_frame rfl rfl

/-! ### The swap -/

theorem portsFollow_clearAbsentGroup (s : State) (g : GroupId) : PortsFollow s (clearAbsentGroup s g) := by
  unfold clearAbsentGroup
  split
  · exact PortsFollow.refl s
  · exact (portsFollow_enterOff g s).of_frame rfl rfl

theorem portsFollow_changeForced (old : Memory) (s : State) (g : GroupId) : PortsFollow s (changeForced old s g) := by
  unfold changeForced
  split
  · exact portsFollow_driveForceGroup g s
  · exact portsFollow_startLinger g _ s
  all_goals exact PortsFollow.refl s

theorem portsFollow_laterSwap (old : Memory) (s : State) : PortsFollow s (laterSwap old s) := by
  have h : PortsFollow s (allGroups.foldl clearAbsentGroup s.sync) :=
    (portsFollow_sync s).trans (foldl_frame PortsFollow.refl PortsFollow.trans portsFollow_clearAbsentGroup _ _)
  unfold laterSwap
  dsimp only
  split
  · exact h.trans (foldl_frame PortsFollow.refl PortsFollow.trans (portsFollow_changeForced old) _ _)
  all_goals exact h

theorem portsFollow_startFallbackLinger (s : State) (g : GroupId) : PortsFollow s (startFallbackLinger s g) := by
  unfold startFallbackLinger
  split
  · exact portsFollow_startLinger g _ s
  · exact PortsFollow.refl s

theorem portsFollow_firstSwap (s : State) : PortsFollow s (firstSwap s) := by
  have h : ∀ t : State, PortsFollow t (allGroups.foldl startFallbackLinger (allGroups.foldl clearAbsentGroup t)) := fun t =>
    (foldl_frame PortsFollow.refl PortsFollow.trans portsFollow_clearAbsentGroup _ t).trans
      (foldl_frame PortsFollow.refl PortsFollow.trans portsFollow_startFallbackLinger _ _)
  unfold firstSwap
  dsimp only
  have k : PortsFollow s { s with mode := { s.mode with configured := true } } := PortsFollow.of_eq rfl rfl
  split
  · exact (k.trans (h _)).trans (portsFollow_driveEntry _)
  · exact (k.trans (h _)).trans (portsFollow_parkedEntry _)

theorem portsFollow_takeSwap (s : State) : PortsFollow s (takeSwap s) := by
  unfold takeSwap
  dsimp only
  have k : PortsFollow s (exchangeBanks s) := PortsFollow.of_eq rfl rfl
  split
  · exact k.trans (portsFollow_laterSwap _ _)
  · exact k.trans (portsFollow_firstSwap _)

end Sys2Proof.Machine
end

