-- ==== Sys2Proof/Laws/Intake.lean ====
section
/-! SUPPORT. What waits at a port and how it is taken: what classification and requests do to it, and that taking leaves nothing waiting
(R39, R146). -/

namespace Sys2Proof.Machine

/-! ### What keeps waiting -/

/-- The frames at the ports and the request at port 0 wait as before. -/
def WaitingKept (s t : State) : Prop :=
  t.agent.request = s.agent.request ∧ ∀ p : PortId, (t.port p).waiting = (s.port p).waiting

theorem WaitingKept.refl (s : State) : WaitingKept s s := ⟨rfl, fun _ => rfl⟩

theorem WaitingKept.trans {s t u : State} (h : WaitingKept s t) (k : WaitingKept t u) : WaitingKept s u :=
  ⟨k.1.trans h.1, fun p => (k.2 p).trans (h.2 p)⟩

theorem PortsFollow.waiting {s t : State} (h : PortsFollow s t) (k : t.agent.request = s.agent.request) : WaitingKept s t :=
  ⟨k, fun p => (h.1 p).1⟩

theorem waitingKept_setPort (s : State) (p : PortId) (x : Port) (h : x.waiting = (s.port p).waiting) : WaitingKept s (s.setPort p x) := by
  refine ⟨rfl, fun q => ?_⟩
  by_cases e : q = p
  · subst e
    simpa using h
  · rw [port_setPort_ne s x e]

theorem waitingKept_offer (s : State) (p : PortId) (f : Frame) : WaitingKept s (s.offer p f) := by
  refine waitingKept_setPort s p _ ?_
  unfold offerPort
  split
  · split <;> rfl
  · rfl

theorem waitingKept_count (s : State) (p : PortId) (c : Counter) : WaitingKept s (s.count p c) := waitingKept_setPort s p _ rfl

theorem waitingKept_holdFrame (s : State) (p : PortId) (f : Frame) (rule : Option Nat) : WaitingKept s (s.holdFrame p f rule) := by
  unfold State.holdFrame
  split
  · exact WaitingKept.refl s
  · exact waitingKept_count s p _

theorem waitingKept_forwardTo (f : Frame) (hold : Bool) (rule : Option Nat) (s : State) (p : PortId) :
    WaitingKept s (forwardTo f hold rule s p) := by
  unfold forwardTo
  split
  · exact waitingKept_offer s p f
  · split
    · exact waitingKept_holdFrame s p f rule
    · split
      · exact waitingKept_holdFrame s p f rule
      · exact waitingKept_count s p _

theorem waitingKept_routeTo (f : Frame) (s : State) (p : PortId) : WaitingKept s (routeTo f s p) := by
  unfold routeTo
  split
  · split
    · exact waitingKept_holdFrame s p f none
    · exact waitingKept_offer s p f
  · exact waitingKept_count s p _

theorem waitingKept_fallbackTo (f : Frame) (s : State) (p : PortId) : WaitingKept s (fallbackTo f s p) := by
  unfold fallbackTo
  split
  · exact waitingKept_offer s p f
  · exact WaitingKept.refl s

theorem waitingKept_takeWake (r : WakeRequest) (s : State) : WaitingKept s (takeWake r s).1 := by
  refine (portsFollow_takeWake r s).waiting ?_
  rw [(wakeFrame_takeWake r s).keeps.agent]

theorem waitingKept_quietWake (s : State) (c : Cause) (src : Source) (i : Option Ident) : WaitingKept s (s.quietWake c src i) := by
  refine (portsFollow_quietWake s c src i).waiting ?_
  rw [(wakeFrame_quietWake s c src i).keeps.agent]

theorem waitingKept_takeReport (s : State) (v : Option Nat) : WaitingKept s (s.takeReport v) := by
  refine (portsFollow_takeReport s v).waiting ?_
  rw [(reportKeeps_takeReport s v).keeps.agent]

/-- A classification takes no frame but its own, and no request. -/
theorem waitingKept_classifyFrame (src : PortId) (f : Frame) (s : State) : WaitingKept s (classifyFrame src f s) := by
  have h1 : ∀ (l : List PortId) (t : State), WaitingKept t (l.foldl (fallbackTo f) t) :=
    foldl_frame WaitingKept.refl WaitingKept.trans (waitingKept_fallbackTo f)
  have h2 : ∀ (l : List PortId) (t : State), WaitingKept t (l.foldl (routeTo f) t) :=
    foldl_frame WaitingKept.refl WaitingKept.trans (waitingKept_routeTo f)
  have h3 : ∀ (w : WorkingRecord) (l : List PortId) (t : State), WaitingKept t (l.foldl (forwardTo f w.hold w.rule) t) := fun w =>
    foldl_frame WaitingKept.refl WaitingKept.trans (waitingKept_forwardTo f w.hold w.rule)
  have h4 : ∀ (l : List Nat) (t : State), WaitingKept t (l.foldl (fun t o => t.takeReport (reportValue f.data o)) t) :=
    foldl_frame WaitingKept.refl WaitingKept.trans (fun t o => waitingKept_takeReport t _)
  unfold classifyFrame
  split
  · exact (waitingKept_quietWake s _ _ _).trans (h1 _ _)
  all_goals
    dsimp only
    split
    · exact waitingKept_count s src _
    · split
      · exact h2 _ _
      · exact ((h4 _ s).trans (waitingKept_takeWake _ _)).trans (h3 _ _ _)

/-! ### Taking a request -/

/-- A request is no longer waiting once it is taken, and frames wait as before. -/
def RequestTaken (s t : State) : Prop := t.agent.request = none ∧ ∀ p : PortId, (t.port p).waiting = (s.port p).waiting

theorem requestTaken_beginRequest (s : State) : RequestTaken s (beginRequest s) := ⟨rfl, fun p => ((portsFollow_beginRequest s).1 p).1⟩

theorem RequestTaken.then {s t u : State} (h : RequestTaken s t) (k : WaitingKept t u) : RequestTaken s u :=
  ⟨k.1.trans h.1, fun p => (k.2 p).trans (h.2 p)⟩

theorem waitingKept_respond (c : Byte) (a : Answer) : WaitingKept a.state (respond c a) := waitingKept_offer a.state 0 _

/-- A request whose action keeps what waits is taken. -/
theorem requestTaken_serve {c : Byte} {n : Nat} {g : Gate} {ok : List Byte → Bool} {act : List Byte → State → Answer}
    (hact : ∀ a s, WaitingKept s (act a s).state) (args : List Byte) (s : State) : RequestTaken s (serve c n g ok act args s) := by
  obtain ⟨u, hu, ⟨st, h⟩ | ⟨-, -, -, h⟩⟩ := serve_cases c n g ok act args s
  · rw [h]
    subst hu
    exact (requestTaken_beginRequest s).then (waitingKept_respond c _)
  · rw [h]
    subst hu
    exact (requestTaken_beginRequest s).then ((hact _ _).trans (waitingKept_respond c _))

theorem waitingKept_actReadCounters (a : List Byte) (s : State) : WaitingKept s (actReadCounters a s).state := by
  unfold actReadCounters
  dsimp only [answerOk]
  split
  · exact WaitingKept.refl s
  · refine waitingKept_setPort s _ _ ?_
    unfold clearPair clearCounter
    split <;> rfl

theorem waitingKept_groups (f : State → GroupId → State) (hp : ∀ t g, PortsFollow t (f t g)) (ha : ∀ t g, (f t g).agent = t.agent)
    (s : State) : WaitingKept s (allGroups.foldl f s) :=
  foldl_frame WaitingKept.refl WaitingKept.trans (fun t g => (hp t g).waiting (by rw [ha t g])) allGroups s

theorem waitingKept_actClearFault (a : List Byte) (s : State) : WaitingKept s (actClearFault a s).state := by
  refine waitingKept_groups _ (fun t g => ?_) (fun t g => ?_) s
  all_goals unfold clearFaultGroup; split
  · exact portsFollow_enterOff g t
  · exact PortsFollow.refl t
  all_goals rfl

theorem portsFollow_endQuarantine (c : Cause) (src : Option Source) (g : GroupId) (s : State) :
    PortsFollow s (endQuarantine c src g s) := by
  have h := portsFollow_enterOff g (s.setStorm g StormRecord.atPowerOn)
  exact PortsFollow.trans (t := s.setStorm g StormRecord.atPowerOn) (PortsFollow.of_eq rfl rfl) (h.of_frame rfl rfl)

theorem waitingKept_actReleaseQuarantine (a : List Byte) (s : State) : WaitingKept s (actReleaseQuarantine a s).state := by
  refine waitingKept_groups _ (fun t g => ?_) (fun t g => ?_) s
  all_goals unfold releaseGroup; split
  · exact portsFollow_endQuarantine _ _ g t
  · exact PortsFollow.refl t
  all_goals rfl

theorem waitingKept_actSwap (a : List Byte) (s : State) : WaitingKept s (actSwap a s).state := by
  unfold actSwap
  split
  · exact WaitingKept.refl s
  · split
    · exact WaitingKept.refl s
    · refine (portsFollow_takeSwap s).waiting ?_
      show (takeSwap s).agent.request = _
      rw [(takeSwap_keeps s).agent]
      rfl

/-- Actions that read, or change the agent's other items and the rule store, keep what waits. -/
theorem waitingKept_plainActs (a : List Byte) (s : State) :
    WaitingKept s (actStatus a s).state ∧ WaitingKept s (actReadBudget a s).state ∧ WaitingKept s (actReadGroup a s).state ∧
    WaitingKept s (actReadHistory a s).state ∧ WaitingKept s (actSetPointer a s).state ∧ WaitingKept s (actReadTable a s).state ∧
    WaitingKept s (actAbort a s).state ∧ WaitingKept s (actWriteTable a s).state ∧ WaitingKept s (actVerify a s).state ∧
    WaitingKept s (actLock a s).state ∧ WaitingKept s (actClearHistory a s).state := by
  have h := WaitingKept.refl s
  refine ⟨h, h, h, ?_, ⟨rfl, fun _ => rfl⟩, ?_, ?_, ?_, ?_, ⟨rfl, fun _ => rfl⟩, ⟨rfl, fun _ => rfl⟩⟩
  · rw [actReadHistory_state]
    exact WaitingKept.refl s
  · rw [actReadTable_frame]
    exact ⟨rfl, fun _ => rfl⟩
  · unfold actAbort
    dsimp only
    split <;> exact ⟨rfl, fun _ => rfl⟩
  · unfold actWriteTable
    split
    · exact WaitingKept.refl s
    · split <;> exact ⟨rfl, fun _ => rfl⟩
  · unfold actVerify
    split <;> exact ⟨rfl, fun _ => rfl⟩

/-- Whatever request the agent takes, none waits afterwards, and the frames at the ports wait as before. -/
theorem requestTaken_takeRequest (d : List Byte) (s : State) : RequestTaken s (takeRequest d s) := by
  have h := waitingKept_plainActs
  generalize hd : decodeRequest d = i
  unfold takeRequest
  rw [hd]
  unfold decodeRequest at hd
  split at hd
  · subst hd
    exact (requestTaken_beginRequest s).then (waitingKept_respond _ (refuse .length _))
  · split at hd <;> subst hd
    · exact requestTaken_serve (fun a t => (h a t).1) _ s
    · exact requestTaken_serve (fun a t => (h a t).2.1) _ s
    · exact requestTaken_serve (fun a t => (h a t).2.2.1) _ s
    · exact requestTaken_serve (fun a t => (h a t).2.2.2.1) _ s
    · exact requestTaken_serve waitingKept_actReadCounters _ s
    · exact requestTaken_serve (fun a t => (h a t).2.2.2.2.1) _ s
    · exact requestTaken_serve (fun a t => (h a t).2.2.2.2.2.1) _ s
    · exact requestTaken_serve (fun a t => (h a t).2.2.2.2.2.2.1) _ s
    · exact requestTaken_serve (fun a t => (h a t).2.2.2.2.2.2.2.1) _ s
    · exact requestTaken_serve (fun a t => (h a t).2.2.2.2.2.2.2.2.1) _ s
    · exact requestTaken_serve waitingKept_actSwap _ s
    · exact requestTaken_serve (fun a t => (h a t).2.2.2.2.2.2.2.2.2.1) _ s
    · exact requestTaken_serve (fun a t => waitingKept_takeWake _ t) _ s
    · exact requestTaken_serve waitingKept_actClearFault _ s
    · exact requestTaken_serve waitingKept_actReleaseQuarantine _ s
    · exact requestTaken_serve (fun a t => (h a t).2.2.2.2.2.2.2.2.2.2) _ s
    · exact (requestTaken_beginRequest s).then (waitingKept_respond _ (refuse .unknown _))

/-! ### Taking what waits -/

/-- The frame that waits at a port is taken, and nothing else that waits. -/
theorem takeFrame_waiting (p : PortId) (s : State) :
    (s.takeFrame p).agent.request = s.agent.request ∧ ((s.takeFrame p).port p).waiting = none ∧
    ∀ q : PortId, q ≠ p → ((s.takeFrame p).port q).waiting = (s.port q).waiting := by
  unfold State.takeFrame
  split
  · have h := waitingKept_classifyFrame p ‹_› (s.setPort p { s.port p with waiting := none })
    exact ⟨h.1, by rw [h.2 p]; simp, fun q hq => by rw [h.2 q, port_setPort_ne s _ hq]⟩
  · exact ⟨rfl, ‹_›, fun _ _ => rfl⟩

/-- What waits at a port is taken: nothing waits there any more, and at port 0 no request either. -/
theorem takeWaiting_waiting (p : PortId) (s : State) :
    ((s.takeWaiting p).port p).waiting = none ∧ (p = 0 → (s.takeWaiting p).agent.request = none) := by
  have h := takeFrame_waiting p s
  unfold State.takeWaiting State.takeRequestWaiting
  split
  · split
    · have k := requestTaken_takeRequest ‹_› (s.takeFrame p)
      exact ⟨(k.2 p).trans h.2.1, fun _ => k.1⟩
    · exact ⟨h.2.1, fun _ => ‹_›⟩
  · exact ⟨h.2.1, fun e => absurd e ‹_›⟩

/-- Where nothing waits, nothing is taken. -/
theorem takeWaiting_of_quiet {p : PortId} {s : State} (h : (s.port p).waiting = none) (k : p = 0 → s.agent.request = none) :
    s.takeWaiting p = s := by
  have hf : s.takeFrame p = s := by unfold State.takeFrame; rw [h]
  unfold State.takeWaiting
  rw [hf]
  split
  · unfold State.takeRequestWaiting
    rw [k ‹_›]
  · rfl

/-- A request arrives: it waits already, or nothing waits at port 0. -/
theorem requestArrives_cases (d : List Byte) (s : State) :
    (s.agent.request = some d ∧ s.requestArrives d = s) ∨
    (s.requestArrives d = s.takeWaiting 0 ∧ ((s.requestArrives d).port 0).waiting = none ∧
      (s.requestArrives d).agent.request = none) := by
  unfold State.requestArrives
  split
  · exact .inl ⟨‹_›, rfl⟩
  · exact .inr ⟨rfl, (takeWaiting_waiting 0 s).1, (takeWaiting_waiting 0 s).2 rfl⟩

/-- Once a request has arrived, no more is taken before it. -/
theorem requestArrives_idem (d : List Byte) (s : State) : (s.requestArrives d).requestArrives d = s.requestArrives d := by
  rcases requestArrives_cases d s with ⟨h, k⟩ | ⟨-, h, k⟩
  · rw [k, k]
  · have e : (s.requestArrives d).requestArrives d = (s.requestArrives d).takeWaiting 0 := by
      rw [State.requestArrives, if_neg (by rw [k]; simp)]
    rw [e, takeWaiting_of_quiet h (fun _ => k)]

/-! ### The rows -/

theorem exec_classification (p : PortId) (s : State) : exec (.classification p) s = .next (s.takeFrame p) := rfl

/-- A request row takes the request as it would be taken from where it waits. -/
theorem exec_request (d : List Byte) (s : State) (hl : d.length ≤ 8) :
    exec (decodeRequest d) s = .next (takeRequest d (s.requestArrives d)) := by
  generalize hd : decodeRequest d = i
  unfold takeRequest
  rw [hd]
  unfold decodeRequest at hd
  split at hd
  · subst hd
    rfl
  · rename_i c args
    have ht : args.take 7 = args := List.take_of_length_le (by have := List.length_cons (a := c) (as := args); omega)
    have hc : ∀ n : Nat, c.toNat = n → c = BitVec.ofNat 8 n := fun n h => by rw [← h, BitVec.ofNat_toNat, BitVec.setWidth_eq]
    have key : ∀ (f : List Byte → State → State) (b : Byte),
        (Host.Outcome.next (f args (s.requestArrives (b :: args.take 7))) : Host.Outcome State Fault Refusal) =
          .next (f args (s.requestArrives (b :: args))) := fun f b => by rw [ht]
    split at hd
    case h_17 h1 h2 h3 h4 h5 h6 h7 h8 h9 h10 h11 h12 h13 h14 h15 h16 =>
      subst hd
      have hn : isCommandCode c = false := by
        simp only [imp_false] at h1 h2 h3 h4 h5 h6 h7 h8 h9 h10 h11 h12 h13 h14 h15 h16
        simp only [isCommandCode, Bool.or_eq_false_iff, Bool.and_eq_false_iff, decide_eq_false_iff_not]
        omega
      show (if isCommandCode c then _ else _) = _
      rw [hn, ht]
      rfl
    all_goals
      subst hd
      rw [hc _ ‹c.toNat = _›]
    · exact key serveStatus _
    · exact key serveReadBudget _
    · exact key serveReadGroup _
    · exact key serveReadHistory _
    · exact key serveReadCounters _
    · exact key serveSetPointer _
    · exact key serveReadTable _
    · exact key serveAbort _
    · exact key serveWriteTable _
    · exact key serveVerify _
    · exact key serveSwap _
    · exact key serveLock _
    · exact key serveWake _
    · exact key serveClearFault _
    · exact key serveReleaseQuarantine _
    · exact key serveClearHistory _

end Sys2Proof.Machine
end

