-- ==== Sys2Proof/Laws/PerInstr.lean ====
section
/-! SUPPORT. Per command: the data bytes of a management request decode to the command that they stand for. -/

namespace Sys2Proof.Laws

/-- The request bytes of a well-formed command decode to that command (Table 11-8); a command that is no request has none. -/
def RequestRoundTrip.Statement (i : Instr) : Prop :=
  i.wellFormed = true → ∀ d : List Byte, requestBytes i = some d → decodeRequest d = i

/-- A first byte that is no command code names an unknown command (R149). -/
theorem decodeRequest_unknown (c : Byte) (rest : List Byte) (h : isCommandCode c = false) :
    decodeRequest (c :: rest) = .unknownCommand (c :: rest) := by
  unfold decodeRequest
  dsimp only
  split
  all_goals first
    | rfl
    | simp_all [isCommandCode]

theorem RequestRoundTrip.powerOn (pins : PowerOnPins) : RequestRoundTrip.Statement (.powerOn pins) := by
  intro _ d h
  cases h

theorem RequestRoundTrip.pinChange (line : InputLine) (level : Bool) : RequestRoundTrip.Statement (.pinChange line level) := by
  intro _ d h
  cases h

theorem RequestRoundTrip.gpiEdge (k : GpiId) : RequestRoundTrip.Statement (.gpiEdge k) := by
  intro _ d h
  cases h

theorem RequestRoundTrip.ignEdge : RequestRoundTrip.Statement .ignEdge := by
  intro _ d h
  cases h

theorem RequestRoundTrip.svcEdge : RequestRoundTrip.Statement .svcEdge := by
  intro _ d h
  cases h

theorem RequestRoundTrip.dataFrameReceived (e : BusEnd) (ident : Ident) (dlc : BitVec 4) (data : List Byte) :
    RequestRoundTrip.Statement (.dataFrameReceived e ident dlc data) := by
  intro _ d h
  cases h

theorem RequestRoundTrip.receptionError (e : BusEnd) : RequestRoundTrip.Statement (.receptionError e) := by
  intro _ d h
  cases h

theorem RequestRoundTrip.remoteRequestFrame (e : BusEnd) (ident : Ident) : RequestRoundTrip.Statement (.remoteRequestFrame e ident) := by
  intro _ d h
  cases h

theorem RequestRoundTrip.classification (p : PortId) : RequestRoundTrip.Statement (.classification p) := by
  intro _ d h
  cases h

theorem RequestRoundTrip.txAttemptStart (p : PortId) : RequestRoundTrip.Statement (.txAttemptStart p) := by
  intro _ d h
  cases h

theorem RequestRoundTrip.attemptAcknowledged (e : BusEnd) : RequestRoundTrip.Statement (.attemptAcknowledged e) := by
  intro _ d h
  cases h

theorem RequestRoundTrip.attemptNotAcknowledged (e : SilentEnd) : RequestRoundTrip.Statement (.attemptNotAcknowledged e) := by
  intro _ d h
  cases h

theorem RequestRoundTrip.attemptError (e : ErrorEnd) : RequestRoundTrip.Statement (.attemptError e) := by
  intro _ d h
  cases h

theorem RequestRoundTrip.arbitrationLost (p : PortId) : RequestRoundTrip.Statement (.arbitrationLost p) := by
  intro _ d h
  cases h

theorem RequestRoundTrip.busOffRecovery (p : PortId) : RequestRoundTrip.Statement (.busOffRecovery p) := by
  intro _ d h
  cases h

theorem RequestRoundTrip.holdRelease (p : PortId) : RequestRoundTrip.Statement (.holdRelease p) := by
  intro _ d h
  cases h

theorem RequestRoundTrip.holdExpiry (i : Fin 48) : RequestRoundTrip.Statement (.holdExpiry i) := by
  intro _ d h
  cases h

theorem RequestRoundTrip.mgmtLingerExpiry : RequestRoundTrip.Statement .mgmtLingerExpiry := by
  intro _ d h
  cases h

theorem RequestRoundTrip.powerGoodAsserted (g : GroupId) : RequestRoundTrip.Statement (.powerGoodAsserted g) := by
  intro _ d h
  cases h

theorem RequestRoundTrip.powerGoodDelayExpiry (g : GroupId) : RequestRoundTrip.Statement (.powerGoodDelayExpiry g) := by
  intro _ d h
  cases h

theorem RequestRoundTrip.powerGoodTimeout (g : GroupId) : RequestRoundTrip.Statement (.powerGoodTimeout g) := by
  intro _ d h
  cases h

theorem RequestRoundTrip.powerGoodLost (g : GroupId) : RequestRoundTrip.Statement (.powerGoodLost g) := by
  intro _ d h
  cases h

theorem RequestRoundTrip.powerFault (g : GroupId) : RequestRoundTrip.Statement (.powerFault g) := by
  intro _ d h
  cases h

theorem RequestRoundTrip.settleExpiry (g : GroupId) : RequestRoundTrip.Statement (.settleExpiry g) := by
  intro _ d h
  cases h

theorem RequestRoundTrip.lingerExpiry (g : GroupId) : RequestRoundTrip.Statement (.lingerExpiry g) := by
  intro _ d h
  cases h

theorem RequestRoundTrip.drainExpiry (g : GroupId) : RequestRoundTrip.Statement (.drainExpiry g) := by
  intro _ d h
  cases h

theorem RequestRoundTrip.settlement : RequestRoundTrip.Statement .settlement := by
  intro _ d h
  cases h

theorem RequestRoundTrip.windowExpiry (g : GroupId) : RequestRoundTrip.Statement (.windowExpiry g) := by
  intro _ d h
  cases h

theorem RequestRoundTrip.quarantineExpiry (g : GroupId) : RequestRoundTrip.Statement (.quarantineExpiry g) := by
  intro _ d h
  cases h

theorem RequestRoundTrip.parkSettleExpiry : RequestRoundTrip.Statement .parkSettleExpiry := by
  intro _ d h
  cases h

theorem RequestRoundTrip.modeTimeTick : RequestRoundTrip.Statement .modeTimeTick := by
  intro _ d h
  cases h

theorem RequestRoundTrip.verificationComplete : RequestRoundTrip.Statement .verificationComplete := by
  intro _ d h
  cases h

theorem RequestRoundTrip.copyComplete : RequestRoundTrip.Statement .copyComplete := by
  intro _ d h
  cases h

theorem RequestRoundTrip.status (args : List Byte) : RequestRoundTrip.Statement (.status args) := by
  intro _ d h
  cases h
  rfl

theorem RequestRoundTrip.readBudget (args : List Byte) : RequestRoundTrip.Statement (.readBudget args) := by
  intro _ d h
  cases h
  rfl

theorem RequestRoundTrip.readGroup (args : List Byte) : RequestRoundTrip.Statement (.readGroup args) := by
  intro _ d h
  cases h
  rfl

theorem RequestRoundTrip.readHistory (args : List Byte) : RequestRoundTrip.Statement (.readHistory args) := by
  intro _ d h
  cases h
  rfl

theorem RequestRoundTrip.readCounters (args : List Byte) : RequestRoundTrip.Statement (.readCounters args) := by
  intro _ d h
  cases h
  rfl

theorem RequestRoundTrip.setPointer (args : List Byte) : RequestRoundTrip.Statement (.setPointer args) := by
  intro _ d h
  cases h
  rfl

theorem RequestRoundTrip.readTable (args : List Byte) : RequestRoundTrip.Statement (.readTable args) := by
  intro _ d h
  cases h
  rfl

theorem RequestRoundTrip.abort (args : List Byte) : RequestRoundTrip.Statement (.abort args) := by
  intro _ d h
  cases h
  rfl

theorem RequestRoundTrip.writeTable (args : List Byte) : RequestRoundTrip.Statement (.writeTable args) := by
  intro _ d h
  cases h
  rfl

theorem RequestRoundTrip.verify (args : List Byte) : RequestRoundTrip.Statement (.verify args) := by
  intro _ d h
  cases h
  rfl

theorem RequestRoundTrip.swap (args : List Byte) : RequestRoundTrip.Statement (.swap args) := by
  intro _ d h
  cases h
  rfl

theorem RequestRoundTrip.lock (args : List Byte) : RequestRoundTrip.Statement (.lock args) := by
  intro _ d h
  cases h
  rfl

theorem RequestRoundTrip.wake (args : List Byte) : RequestRoundTrip.Statement (.wake args) := by
  intro _ d h
  cases h
  rfl

theorem RequestRoundTrip.clearFault (args : List Byte) : RequestRoundTrip.Statement (.clearFault args) := by
  intro _ d h
  cases h
  rfl

theorem RequestRoundTrip.releaseQuarantine (args : List Byte) : RequestRoundTrip.Statement (.releaseQuarantine args) := by
  intro _ d h
  cases h
  rfl

theorem RequestRoundTrip.clearHistory (args : List Byte) : RequestRoundTrip.Statement (.clearHistory args) := by
  intro _ d h
  cases h
  rfl

theorem RequestRoundTrip.unknownCommand (data : List Byte) : RequestRoundTrip.Statement (.unknownCommand data) := by
  intro hw d h
  cases h
  match data, hw with
  | [], _ => rfl
  | c :: rest, hw =>
    apply decodeRequest_unknown
    simp only [Instr.wellFormed, namesNoCommand, Bool.and_eq_true, Bool.not_eq_true'] at hw
    exact hw.1

end Sys2Proof.Laws
end

