-- ==== Sys2Proof/Tests/Slice0.lean ====
section
/-! SUPPORT. Tests: ill-formed commands refused, request words of Table 11-8, table entries of Table 11-6, worked examples of the manual, and
for each statement with hypotheses a state that meets them. Expected values come from the manual's tables and examples, which each
test names. -/

namespace Sys2Proof.Tests

open Sys2Proof.Machine

/-- The end of a frame or an attempt at a port, with nothing found in the flags behind it. -/
def quiet (p : PortId) : BusEnd := { port := p, flags := .nothing }

/-! ### Ill-formed commands -/

theorem test_frame_data_must_fit_length_code :
    (Instr.dataFrameReceived (quiet 1) (.std 0x3C4) 2 [0xAA]).wellFormed = false ∧
    (Instr.dataFrameReceived (quiet 1) (.std 0x3C4) 2 [0xAA, 0xBB]).wellFormed = true := by decide

theorem test_length_code_above_eight_means_eight :
    (Instr.dataFrameReceived (quiet 1) (.std 0x3C4) 15 [1, 2, 3, 4, 5, 6, 7, 8]).wellFormed = true ∧
    (Instr.dataFrameReceived (quiet 1) (.std 0x3C4) 15 [1, 2, 3, 4, 5, 6, 7, 8, 9]).wellFormed = false := by decide

theorem test_request_has_at_most_seven_arguments :
    (Instr.writeTable [1, 2, 3, 4, 5, 6, 7, 8]).wellFormed = false ∧ (Instr.writeTable [1, 2, 3, 4, 5, 6, 7]).wellFormed = true := by
  decide

theorem test_known_code_is_no_unknown_command :
    (Instr.unknownCommand [0x12]).wellFormed = false ∧ (Instr.unknownCommand [0x09]).wellFormed = true := by decide

theorem test_unknown_command_has_at_most_eight_bytes :
    (Instr.unknownCommand [9, 1, 2, 3, 4, 5, 6, 7, 8]).wellFormed = false := by decide

/-! ### Requests as data bytes (Table 11-8) -/

theorem test_reading_requests_decode :
    decodeRequest [0x01, 0] = .status [0] ∧ decodeRequest [0x02, 4] = .readBudget [4] ∧ decodeRequest [0x03, 7] = .readGroup [7] ∧
    decodeRequest [0x04, 31, 3] = .readHistory [31, 3] ∧ decodeRequest [0x05, 4, 5, 1] = .readCounters [4, 5, 1] := by decide

theorem test_table_requests_decode :
    decodeRequest [0x06, 0, 15, 122] = .setPointer [0, 15, 122] ∧ decodeRequest [0x07] = .readTable [] ∧
    decodeRequest [0x08] = .abort [] ∧ decodeRequest [0x10, 0xAB] = .writeTable [0xAB] ∧ decodeRequest [0x11] = .verify [] ∧
    decodeRequest [0x12] = .swap [] ∧ decodeRequest [0x13, 0, 2] = .lock [0, 2] := by decide

theorem test_group_requests_decode :
    decodeRequest [0x14, 0x38, 3] = .wake [0x38, 3] ∧ decodeRequest [0x15, 0xFF] = .clearFault [0xFF] ∧
    decodeRequest [0x16, 0x02] = .releaseQuarantine [0x02] ∧ decodeRequest [0x17] = .clearHistory [] ∧
    decodeRequest [0x18] = .unknownCommand [0x18] ∧ decodeRequest [] = .unknownCommand [] := by decide

/-! ### The configuration of A Parked Night (10.1), laid out by Tables 11-2 to 11-4, with the rule entries of 3.9 -/

/-- Page 0 up to the group records (Table 11-2). -/
def globalBytes : Memory :=
  [(0, 87), (1, 52), (2, 2), (3, 37), (4, 81), (6, 12), (7, 12), (8, 205), (9, 32), (11, 64), (13, 1), (14, 144), (15, 2), (16, 88),
   (17, 3), (19, 7), (20, 208), (22, 120), (23, 1)]

/-- The records of G0 to G3 (Tables 10-1 and 11-3). -/
def lowGroupBytes : Memory :=
  [(32, 194), (35, 200), (36, 30), (39, 10), (40, 78), (41, 32), (42, 1), (43, 244)] ++
  [(44, 128), (45, 1), (46, 2), (47, 88), (48, 40), (50, 100), (51, 20), (52, 58), (53, 152), (54, 1), (55, 44)] ++
  [(56, 131), (57, 2), (58, 3), (59, 82), (60, 40), (63, 15), (64, 78), (65, 32), (66, 1), (67, 144)] ++
  [(68, 129), (69, 3), (71, 150), (72, 10), (76, 39), (77, 16)]

/-- The records of G4 to G7. -/
def highGroupBytes : Memory :=
  [(80, 128), (81, 4), (82, 7), (83, 8), (84, 120), (86, 120), (87, 15), (88, 234), (89, 96), (90, 1), (91, 144)] ++
  [(92, 129), (93, 3), (95, 64), (96, 5), (99, 5), (100, 234), (101, 96), (103, 200)] ++
  [(104, 128), (105, 1), (106, 1), (107, 44), (108, 25), (110, 100), (111, 20), (112, 117), (113, 48), (114, 1), (115, 44)] ++
  [(116, 129), (117, 2), (119, 250), (120, 15), (123, 10), (124, 117), (125, 48), (127, 200)]

/-- The records of GPI3 and GPI5 (Table 11-4). -/
def lineBytes : Memory := [(152, 2), (153, 9), (154, 66), (155, 1), (168, 2), (169, 1), (170, 2), (171, 2)]

/-- Entries 14, 15 and 16 of 3.9 as entries 0, 1 and 2, the REPORT entry of Table 10-2 as entry 3, and END (Tables 11-5 to 11-7). -/
def ruleBytes : Memory :=
  [(256, 0x81), (257, 0x80), (258, 0x84), (259, 0x40), (260, 0x60), (262, 0x03), (263, 0xC0), (266, 0x07), (267, 0xF0)] ++
  [(272, 0x21), (273, 0x12), (274, 0x06), (275, 0x03), (278, 0x03), (279, 0xC4)] ++
  [(280, 0x41), (282, 0x06), (286, 0x03), (287, 0xC4)] ++
  [(288, 0xC1), (290, 0x06), (291, 0x81), (294, 0x02), (295, 0xF0), (296, 0x40), (298, 0x07), (299, 0xFF), (304, 0xE0)]

/-- The bank of the tests. -/
def nightBank : Memory := globalBytes ++ lowGroupBytes ++ highGroupBytes ++ lineBytes ++ ruleBytes

/-- A state in DRIVE with the bank of the tests active and IGN high, everything else as after power-on. -/
def drive : State :=
  { State.reset with
    store := { State.reset.store with bank0 := nightBank }
    lines := { State.reset.lines with ign := Line.atPowerOn true }
    mode := { State.reset.mode with mode := .drive, configured := true } }

/-- A state in PARKED with a full budget, everything else as after power-on. -/
def parked : State :=
  { State.reset with
    store := { State.reset.store with bank0 := nightBank }
    mode := { State.reset.mode with mode := .parked, configured := true }
    charge := parkAccount nightBank ChargeAccount.atPowerOn }

/-- A group channel in a state, with its timer and grant class. -/
def channel (st : GroupState) (timer : SeqTimer) (c : Option WakeClass) : Group :=
  { Group.atPowerOn with state := st, timer := timer, grantClass := c }

/-- The state with SVC asserted. -/
def withService (s : State) : State := { s with lines := { s.lines with svc := Line.atPowerOn true } }

/-- The state with a budget remainder; the sum of the account is kept. -/
def withRemainder (n : Nat) (s : State) : State :=
  { s with charge := relevel { s.charge with bRem := n, spent := s.charge.pActive - n } }

/-- The state that a command leaves. -/
def after (c : Instr) (s : State) : State :=
  match exec c s with
  | .next t => t
  | .fault _ | .refused _ => s

/-- A frame of the tests. -/
def frame : Frame := { ident := .std 0x3C4, data := [1, 2, 3, 4] }

/-- An ACTIVE port with a frame in its queue and an attempt of it on the bus. -/
def busyPort : Port := { Port.atPowerOn with state := .active, queue := [frame], attempt := .head }

/-- The state with a frame received and waiting at port 0. -/
def withWaiting (f : Frame) (s : State) : State := s.setPort 0 { s.port 0 with waiting := some f }

/-- A wake request of the management agent. -/
def request (set : GroupSet) (c : WakeClass) : WakeRequest :=
  { set := set, cls := c, cause := .mgmt, source := some (.port 0), rule := none, ident := none }

/-! ### Reading a bank -/

theorem test_bank_is_canonical_and_verifies : nightBank.wf = true ∧ verifyBank nightBank = none := by decide

theorem test_global_parameters :
    nightBank.parkBudget = 36000000 ∧ nightBank.baseDraw = 12 ∧ nightBank.holdTime = 400 ∧ nightBank.stormWindow = 600 ∧
    nightBank.stormLimit = 3 ∧ nightBank.mgmtLinger = 2000 ∧ nightBank.parkSettle = 120 ∧ nightBank.defaultRoute = 1 := by decide

/-- 2.3: stored fractions 9000, 4000 and 20000 act as 9000, 9000 and 20000. -/
theorem test_fractions_are_put_in_order :
    let m : Memory := [(7, 0x23), (8, 0x28), (9, 0x0F), (10, 0xA0), (11, 0x4E), (12, 0x20)]
    m.q1 = 9000 ∧ m.q2 = 9000 ∧ m.q3 = 20000 := by decide

theorem test_group_record :
    nightBank.groupRecord 1 =
      { present := true, driveForced := false, pgMode := .wait, bound := some 1, draw := 600, inrush := 40, pgTimeout := 100,
        settle := 20, tmin := 15000, drain := 300 } := by decide +kernel

/-- Table 10-1, last column. -/
theorem test_costs_from_off :
    allGroups.map (fun g => costFromOff (nightBank.groupRecord g)) = [4030, 9040, 17040, 1510, 108120, 3845, 9025, 7515] := by decide

/-- 3.9 and Table 11-6: the LONG entry of index 14. -/
theorem test_long_entry_fields :
    nightBank.entryAt 256 = .rule
      { long := true, action := .pass, source := 0x01, forward := 0x10, wake := 0x10, cls := 2, minLen := 2, cond := 0, ext := false,
        hold := true, cont := true, id := 0x3C0, idMask := 0x7F0, window := 0, winVal := 0, winMask := 0 } := by decide

/-- 3.9 and Table 11-6: the SHORT entry of index 15. -/
theorem test_short_entry_fields :
    nightBank.entryAt 272 = .rule
      { long := false, action := .pass, source := 0x01, forward := 0x02, wake := 0x40, cls := 3, minLen := 0, cond := 3, ext := false,
        hold := false, cont := false, id := 0x3C4, idMask := BitVec.allOnes 29, window := 0, winVal := 0, winMask := 0 } := by decide

/-! ### Verification (2.11) -/

/-- 2.11: a LONG entry at 264 with window offset 7 is reported before the entry at 280. -/
theorem test_verify_bad_window_at_264 :
    verifyBank ((nightBank.filter (fun x => x.1 < 256)) ++
      [(256, 0x21), (264, 0x81), (272, 0xE0), (280, 0x20), (281, 0x00), (288, 0xE0)])
      = some { kind := .badWindow, offset := 264 } := by decide

/-- 2.11: a wake set that names an absent G3. -/
theorem test_verify_absent_group_at_280 :
    verifyBank (Memory.write (nightBank.filter (fun x => x.1 < 256)) 68 0x01 ++
      [(256, 0x21), (264, 0x81), (272, 0xC0), (280, 0x20), (282, 0x40), (288, 0xE0)])
      = some { kind := .absentGroup, offset := 280 } := by decide

/-- A page of zeros: the mark is wrong (R29 step 1). -/
theorem test_verify_zero_bank : verifyBank [] = some { kind := .badMark, offset := 0 } := by decide

/-! ### The charge account (7.10) -/

theorem test_thresholds_at_park_entry :
    (after .ignEdge { drive with lines := { drive.lines with ign := { pin := false, level := true, prev := true, debounce := some 0 } } }).charge
      = { loaded := true, pActive := 36000000, bRem := 36000000, spent := 0, cut := 0, shortfall := 0, carry := 0,
          drawn := #v[0, 0, 0, 0, 0, 0, 0, 0], inrush := 0, l1 := 1800109, l2 := 4500000, l3 := 9000000, level := .opened,
          timer := some 1000 } := by decide

/-- 7.10, a settlement across a threshold. -/
theorem test_settlement_across_threshold :
    let a := settleAccount nightBank 1000 { parked.charge with
      bRem := 9000200, spent := 26999800, carry := 730, drawn := #v[0, 0, 420, 0, 0, 1000, 0, 0], inrush := 40 }
    a.bRem = 8999727 ∧ a.spent = 27000273 ∧ a.carry = 730 ∧ a.shortfall = 0 ∧ a.level = .restricted := by decide

/-- 7.10, grant tests after the settlement: cost 9025 with B_rem 8,999,727. -/
theorem test_grant_tests :
    let s := withRemainder 8999727 parked
    s.grants 3 9025 = false ∧ s.grants 2 9025 = true ∧ s.grants 1 9025 = true ∧ s.grants 0 9025 = true := by decide

/-- 7.10, rounding of the cost. -/
theorem test_cost_rounds_up :
    costFromUp { builtInParams with draw := 333, tmin := 1500 } = 500 ∧
    costFromUp { builtInParams with draw := 400, tmin := 1500 } = 600 := by decide

/-- 7.10, a battery report of 8000 A·s, then one of 9000, then the mark 0xFFFF. -/
theorem test_battery_reports :
    let a := reportAccount 8000 (withRemainder 8999727 parked).charge
    a.cut = 999727 ∧ a.bRem = 8000000 ∧ a.level = .restricted ∧ (reportAccount 9000 a).bRem = 8000000 ∧
    (parked.takeReport (some 0xFFFF)).charge.bRem = 36000000 := by decide

/-- 7.10, saturation into shortfall and the settlement after it. -/
theorem test_shortfall :
    let t := after .settlement (withRemainder 300
      { parked with charge := { parked.charge with timer := some 0, drawn := #v[0, 0, 0, 0, 234, 0, 0, 0], inrush := 46 } })
    t.charge.bRem = 0 ∧ t.charge.spent = 36000000 ∧ t.charge.level = .exhausted ∧ t.charge.shortfall = 479 - 300 := by decide

/-- 7.10, the exact comparison at full budget. -/
theorem test_grant_compares_exactly :
    let a := { parked.charge with pActive := 4294967295, bRem := 4294967295, l2 := 0, l3 := 4294901759 }
    threshold 4294967295 65535 = 4294901759 ∧ parkedGrant a 3 245955 = false ∧ parkedGrant a 2 245955 = true := by decide

/-- 7.10, a final settlement over 370 ms with G0 UP. -/
theorem test_final_settlement :
    let t := after .ignEdge
      { parked.setGroup 0 (channel .up (.linger 5000) (some 0)) with
        lines := { parked.lines with ign := { pin := true, level := false, prev := false, debounce := some 0 } }
        charge := { parked.charge with carry := 730, drawn := #v[370, 0, 0, 0, 0, 0, 0, 0], timer := some 630 } }
    t.mode.mode = .drive ∧ t.charge.spent = 79 ∧ t.charge.carry = 170 ∧ t.charge.timer = none := by decide

/-! ### Ports and counters (1.6) -/

/-- 1.6, a branch falls asleep with frames waiting: two frames are flushed, the one on the bus is lost without acknowledgement. -/
theorem test_flush_and_completing_attempt :
    let x : Port := flushPort { busyPort with queue := [frame, frame, frame], attempts := 2 }
    portCounter x .txUndelivered = 2 ∧ x.queue = [] ∧ x.state = .listen ∧
    portCounter ((after (.attemptNotAcknowledged ⟨2, false, .nothing⟩) (parked.setPort 2 x)).port 2) .txUndelivered = 3 ∧
    portCounter ((after (.attemptAcknowledged (quiet 2)) (parked.setPort 2 x)).port 2) .txOk = 1 := by decide

/-- 1.6, the eighth attempt without acknowledgement. -/
theorem test_eighth_attempt_gives_up :
    let s := parked.setPort 4 { busyPort with attempts := 7, queue := [frame, frame] }
    ((after (.attemptNotAcknowledged ⟨4, false, .nothing⟩) s).port 4).queue = [frame] ∧
    (after (.attemptError ⟨4, .beyondArbitration, .nothing⟩) s).counter 4 .txUndelivered = 1 ∧ ((after (.arbitrationLost 4) s).port 4).attempts = 7 := by decide

/-- 1.6, counters after a management exchange. -/
theorem test_management_exchange :
    let s := after (.dataFrameReceived (quiet 0) (.std 0x6A0) 2 [1, 0]) parked
    let t := after (.status [0]) s
    s.counter 0 .rxOk = 1 ∧ s.agent.request = some [1, 0] ∧ t.agent.request = none ∧ (t.port 0).state = .active ∧
    (t.port 0).queue = [{ ident := .std 0x6A1, data := [1, 0, 0x80, 0, 0, 0, 0, 0] }] ∧
    ((after .mgmtLingerExpiry t).port 0).state = .listen := by decide

theorem test_frame_errors_and_remote_requests_are_counted :
    (after (.receptionError (quiet 3)) parked).counter 3 .rxErr = 1 ∧ (after (.remoteRequestFrame (quiet 0) (.std 0x6A0)) parked).counter 0 .rxRemote = 1 ∧
    (after (.remoteRequestFrame (quiet 0) (.std 0x6A0)) parked).agent.request = none := by decide

/-- R39, R146: a frame that waits at a port is taken before the next frame completes its reception there, a request too. -/
theorem test_waiting_frame_is_taken_before_the_next :
    let s := withWaiting frame parked
    let t := after (.dataFrameReceived (quiet 0) (.std 0x6A0) 1 [7]) s
    t.hold.length = 2 ∧ (t.port 0).waiting = none ∧ t.agent.request = some [7] ∧
    (after (.dataFrameReceived (quiet 0) (.std 0x100) 0 []) t).agent.latch.isSome = true ∧
    (after (.status [0]) s).hold.length = 2 := by decide

/-! ### Classification (3.9) -/

/-- 3.9, level OPEN: a chain of two entries. -/
theorem test_search_level_open :
    searchRules parked 0 frame =
      { rule := some 0, blocked := false, forward := 0x12, wake := 0x50, hold := true, cls := some 2, reports := [] } := by decide

/-- 3.9, level OPEN: both groups are woken, and the frame is held for port 1 and then for port 4. -/
theorem test_frame_wakes_and_is_held :
    let t := after (.classification 0) (withWaiting frame parked)
    t.hold.map (fun e => (e.dest, e.rule, e.remaining)) = [(1, some 0, 400), (4, some 0, 400)] ∧
    (t.group 6).grantClass = some 2 ∧ (t.group 4).state = .powering ∧ t.charge.inrush = 145 ∧ (t.port 0).waiting = none := by decide

/-- 3.9, level RESTRICTED: the frame is blocked. -/
theorem test_blocked_frame :
    let t := after (.classification 0) (withWaiting frame (withRemainder 8999727 parked))
    t.counter 0 .rxBlocked = 1 ∧ (t.group 4).state = .off ∧ t.hold = [] := by decide

/-- 3.9, level OPEN with one data byte: the length test of the first entry fails. -/
theorem test_short_frame_is_dropped_asleep :
    let f : Frame := { frame with data := [1] }
    searchRules parked 0 f =
      { rule := some 1, blocked := false, forward := 0x02, wake := 0x40, hold := false, cls := some 3, reports := [] } ∧
    (after (.classification 0) (withWaiting f parked)).counter 1 .dropAsleep = 1 := by decide

/-- 3.9, waking a draining branch: the waiting frame is flushed and the new one held. -/
theorem test_rewake_of_draining_branch :
    let s := withWaiting { frame with ident := .std 0x3C5 }
      ((parked.setGroup 4 (channel .draining (.drain 600) (some 1))).setPort 4 { busyPort with attempt := .idle })
    let t := after (.classification 0) { s with pg := 0x10 }
    (t.group 4).state = .releasing ∧ (t.port 4).state = .listen ∧ t.counter 4 .txUndelivered = 1 ∧ t.hold.length = 1 := by decide

/-- 3.9, a line wake with debounce: a dip of 6 ms is no edge, a low level of 10 ms is one and wakes G1 and G6. -/
theorem test_line_wake_with_debounce :
    let high : Line := Line.atPowerOn true
    let s := parked.setLine (.gpi 3) high
    let low := after (.pinChange (.gpi 3) false) s
    let edge := after (.gpiEdge 3) low
    (low.line (.gpi 3)).debounce = some 10 ∧ ((after (.pinChange (.gpi 3) true) (low.elapse 6)).line (.gpi 3)).debounce = none ∧
    (edge.line (.gpi 3)).level = false ∧ (edge.group 1).state = .powering ∧ (edge.group 6).state = .powering ∧
    (edge.group 1).grantClass = some 1 := by decide

/-- In UNCONFIGURED under FALLBACK-QUIET a frame wakes all groups and is forwarded to no sleeping port (R16, R98, R102). -/
theorem test_unconfigured_frame_wakes_all :
    let t := after (.classification 0) (withWaiting frame State.reset)
    allGroups.all (fun g => (t.group g).state == .powering) = true ∧ t.history.records.length = 8 ∧ t.counter 1 .dropAsleep = 0 := by
  decide

/-! ### Groups -/

/-- G6 of 10.1: WAIT, power-good, settle 20 ms, UP with a linger of 30000 ms. -/
theorem test_wait_group_comes_up :
    let s := (takeWake (request 0x40 1) parked).1
    let t := after (.powerGoodAsserted 6) s
    let u := after (.settleExpiry 6) t
    s.group 6 = { channel .powering (.powerGoodWait 100) (some 1) with faultGuard := 1 } ∧ (t.group 6).timer = .settle 20 ∧
    (t.group 6).watch = true ∧ (u.group 6).state = .up ∧ (u.group 6).timer = .linger 30000 ∧ (u.port 1).state = .active := by decide +kernel

/-- G3 of 10.1: DELAY16, settle 0 and drain 0 pass through at once. -/
theorem test_settle_and_drain_of_zero :
    let s := (takeWake (request 0x08 3) parked).1
    let t := after (.powerGoodDelayExpiry 3) s
    (s.group 3).timer = .powerGoodDelay 16 ∧ (t.group 3).state = .up ∧ (t.group 3).timer = .linger 10000 ∧
    ((after (.lingerExpiry 3) t).group 3).state = .off := by decide +kernel

theorem test_linger_and_drain :
    let s := parked.setGroup 5 (channel .up (.linger 0) (some 3))
    let t := after (.lingerExpiry 5) s
    (t.group 5).timer = .drain 200 ∧ ((after (.drainExpiry 5) t).group 5) = Group.atPowerOn := by decide +kernel

theorem test_power_good_timeout_and_loss :
    let s := (takeWake (request 0x40 1) parked).1
    ((after (.powerGoodTimeout 6) s).group 6).lastFault = some .pgTimeout ∧
    ((after (.powerGoodLost 6) (after (.powerGoodAsserted 6) s)).group 6).lastFault = some .pgLost ∧
    ((after (.powerFault 6) s).group 6).lastFault = some .powerFault ∧
    ((after (.powerFault 6) parked).group 6).state = .off := by decide

theorem test_clear_fault :
    let s := withService (parked.setGroup 2 { channel .fault .stopped none with lastFault := some .pgLost })
    let t := after (.clearFault [0xFF]) s
    (t.group 2).state = .off ∧ (t.group 2).lastFault = some .pgLost ∧
    (t.port 0).queue = [{ ident := .std 0x6A1, data := [0x15, 0, 0x04, 0, 0, 0, 0, 0] }] := by decide

/-! ### Storm supervision and history (8.6) -/

/-- A fourth request from OFF within the window meets N = 3 and quarantines the group (R134). -/
theorem test_storm_quarantines :
    let s := parked.setStorm 1 { count := 3, window := some 400000, quarantine := none }
    let t := (takeWake (request 0x02 0) s).1
    (t.group 1).state = .quarantined ∧ (t.stormOf 1).count = 3 ∧ (t.stormOf 1).window = none ∧
    t.history.records.map (fun w => w.outcome) = [.quarantined] := by decide

theorem test_storm_window_opens_and_closes :
    let t := (takeWake (request 0x02 2) parked).1
    t.stormOf 1 = { count := 1, window := some 600000, quarantine := none } ∧
    (after (.windowExpiry 1) t).stormOf 1 = { count := 0, window := none, quarantine := none } := by decide

theorem test_quarantine_ends :
    let s := (parked.setGroup 1 (channel .quarantined .stopped none)).setStorm 1 { count := 3, window := none, quarantine := some 0 }
    let t := after (.quarantineExpiry 1) s
    (t.group 1).state = .off ∧ (t.stormOf 1).count = 0 ∧ t.history.records.map (fun w => w.outcome) = [.quarantineEnd] ∧
    ((after (.releaseQuarantine [0x02]) (withService s)).group 1).state = .off := by decide

theorem test_clear_history :
    (after (.clearHistory []) (withService (takeWake (request 0x40 1) parked).1)).history = { records := [], overwrites := 0 } := by decide

/-! ### Exhaustion, modes -/

/-- 10.1 with a budget of 0: class 1 to 3 groups are forced at park entry (R92, R116). -/
theorem test_exhaustion_forces_by_class :
    let s := (((parked.setGroup 0 (channel .up (.linger 9) (some 0))).setGroup 1 (channel .powering (.powerGoodWait 9) (some 1))).setGroup 2
      (channel .up (.linger 9) (some 2))).setGroup 3 (channel .up (.linger 9) (some 3))
    let t := s.exhaust
    allGroups.map (fun g => (t.group g).state) = [.up, .off, .draining, .off, .off, .off, .off, .off] ∧
    t.history.records.map (fun w => (w.outcome, w.group)) = [(.forcedDrain, 3), (.forcedDrain, 2), (.forcedDrain, 1)] := by decide

theorem test_mode_time_and_park_settle :
    (after .modeTimeTick parked).mode.modeTime = 1 ∧
    (after .parkSettleExpiry { parked with mode := { parked.mode with parkSettle := some 5 } }).mode.parkSettle = none := by decide

theorem test_service_edge_changes_the_level :
    (after .svcEdge { parked with lines := { parked.lines with svc := { pin := true, level := false, prev := false, debounce := some 0 } } }).lines.svc
      = { pin := true, level := true, prev := false, debounce := none } := by decide

theorem test_power_on_samples_the_inputs :
    let t := after (.powerOn { PowerOnPins.allLow with ma1 := true, fb := true, ign := true }) { parked with pending := [.settlement] }
    t.requestId = 0x6A4 ∧ t.lines.ign.level = true ∧ (t.group 7).state = .powering ∧ t.pending = [.settlement] := by decide

/-! ### Management (9.8, 10.2) -/

/-- 9.8, a read across the end of a bank. -/
theorem test_read_across_the_end :
    let s := after (.setPointer [0, 15, 122]) parked
    let t := after (.readTable []) s
    let u := after (.readTable []) (after (.readTable []) t)
    s.agent.pointer.offset = 2042 ∧ t.agent.pointer.offset = 0 ∧ u.agent.pointer.offset = 12 ∧
    ((u.port 0).queue.map (fun f => f.data)) =
      [[6, 0, 0, 15, 122, 0, 0, 0], [7, 1, 0, 0, 0, 0, 0, 0], [7, 0, 0, 0, 0, 0, 0, 0], [7, 0, 0x57, 0x34, 0x02, 0x25, 0x51, 0x00]] := by
  decide

/-- 9.8, a write across a locked page. -/
theorem test_write_across_a_locked_page :
    let s := { drive with
      store := { drive.store with lockPages := 2, standby := .verified }
      agent := { drive.agent with pointer := { role := .standby, page := 0, column := 125 } } }
    let t := after (.writeTable [1, 2, 3, 4, 5, 6, 7]) s
    let u := after (.writeTable [1, 2, 3, 4, 5, 6, 7]) t
    t.store.bank1 = [(125, 1), (126, 2), (127, 3)] ∧ t.store.standby = .dirty ∧ t.agent.pointer.offset = 132 ∧
    u.store.bank1 = t.store.bank1 ∧ u.agent.pointer.offset = 139 ∧
    (u.port 0).queue.map (fun f => f.data) = [[0x10, 0, 3, 1, 1, 4, 0, 0], [0x10, 0, 0, 1, 1, 11, 0, 0]] := by decide

/-- 9.8, verify and swap while parked, up to the swap. -/
theorem test_verify_then_swap :
    let s := withService { parked with store := { parked.store with bank1 := nightBank } }
    let t := after .verificationComplete (after (.verify []) (after (.swap []) s))
    let u := after .copyComplete (after (.abort []) (after (.swap []) t))
    t.store.standby = .verified ∧ u.store.activeIsOne = true ∧ u.store.standby = .verified ∧
    (u.port 0).queue.map (fun f => f.data.take 3) = [[0x12, 5, 0], [0x11, 0, 0], [0x12, 0, 2], [8, 2, 2]] := by decide

/-- 9.8: in PARKED with SVC negated an extended request is answered MODE, and LOCK too. -/
theorem test_gating :
    ((after (.lock [0, 2]) (after (.wake [0xFF, 0]) parked)).port 0).queue.map (fun f => f.data.take 2) = [[0x14, 3], [0x13, 3]] ∧
    (after (.lock [0, 2]) (withService parked)).store.lockPages = 2 := by decide

/-- 9.8, a management wake in PARKED with level RESTRICTED. -/
theorem test_management_wake :
    let s := withService (withRemainder 9000000 ((parked.setGroup 3 (channel .quarantined .stopped none)).setGroup 5
      (channel .up (.linger 5) (some 3))))
    let t := after (.wake [0x38, 3]) s
    let u := after (.wake [0x38, 0]) s
    (t.port 0).queue.map (fun f => f.data) = [[0x14, 0, 0x20, 0x38, 0, 0, 0, 0]] ∧
    t.history.records.map (fun w => (w.outcome, w.group)) = [(.refusedBudget, 4), (.refusedQuarantine, 3)] ∧
    (u.port 0).queue.map (fun f => f.data) = [[0x14, 0, 0x30, 0x08, 0, 0, 0, 0]] ∧ (u.stormOf 4).count = 1 := by decide

/-- Table 11-10: reports of budget, group, counters and an empty history. -/
theorem test_reports :
    let s := parked.setPort 4 (countBy .holdDiscarded 9 Port.atPowerOn)
    let t := after (.readHistory [0, 0]) (after (.readCounters [4, 5, 1]) (after (.readGroup [6]) (after (.readBudget [0]) s)))
    (t.port 0).queue.map (fun f => f.data) =
      [[2, 0, 0x02, 0x25, 0x51, 0x00, 0, 2], [3, 0, 0, 0, 0xFF, 0, 0xFF, 0xFF], [5, 0, 4, 5, 0, 9, 0, 0], [4, 1, 0, 0, 0, 0, 0, 0]] ∧
    t.counter 4 .holdDiscarded = 0 := by decide

/-- Table 9-2: the checks of a request. -/
theorem test_request_checks :
    ((after (.unknownCommand [0x99]) (after (.unknownCommand []) (after (.readGroup [8]) (after (.readGroup []) parked)))).port 0).queue.map
      (fun f => f.data.take 2) = [[3, 8], [3, 6], [0, 8], [0x99, 7]] := by decide

/-! ### Hold queue -/

theorem test_release_then_expiry :
    let e : HoldEntry := { frame := frame, dest := 1, remaining := 7, rule := some 0 }
    let s := { (parked.setGroup 6 (channel .up (.linger 100) (some 1))).sync with hold := [{ e with dest := 2 }, e] }
    ((after (.holdRelease 1) s).port 1).queue = [frame] ∧ (after (.holdRelease 1) s).hold.map (fun e => e.dest) = [2] ∧
    (after (.holdExpiry 0) s).counter 2 .holdExpired = 1 ∧ (after (.holdExpiry 0) s).hold.map (fun e => e.remaining) = [0] := by decide

/-! ### Bus-off -/

theorem test_bus_off_and_recovery :
    let s := parked.setPort 3 { busyPort with txErrors := 250 }
    let t := after (.attemptError ⟨3, .beyondArbitration, .nothing⟩) s
    portBusOff (t.port 3) = true ∧ after (.receptionError (quiet 3)) t = t ∧ after (.txAttemptStart 3) t = t ∧
    portBusOff ((after (.busOffRecovery 3) t).port 3) = false := by decide

/-- R12 with the protocol's counts of log 8: a receiver counts 1 and then 8 for a dominant bit behind its flag; an error-passive transmitter
does not count a missing acknowledgement unless its flag meets a dominant bit; a stuff bit in arbitration is not counted. -/
theorem test_error_counters :
    ((after (.receptionError ⟨3, { again := 1, dominant := 2 }⟩) parked).port 3).rxErrors = 18 ∧
    (let s := parked.setPort 3 { busyPort with txErrors := 128 }
     ((after (.attemptNotAcknowledged ⟨3, false, .nothing⟩) s).port 3).txErrors = 128 ∧
     ((after (.attemptNotAcknowledged ⟨3, true, .nothing⟩) s).port 3).txErrors = 136 ∧
     ((after (.attemptError ⟨3, .arbitrationStuffBit, .nothing⟩) s).port 3).txErrors = 128 ∧
     ((after (.attemptAcknowledged (quiet 3)) s).port 3).txErrors = 127) := by decide

/-- R11: an attempt that an error ends in arbitration is not counted. -/
theorem test_error_in_arbitration_is_not_counted :
    let s := parked.setPort 3 { busyPort with attempts := 7 }
    ((after (.attemptError ⟨3, .inArbitration, .nothing⟩) s).port 3).attempts = 7 ∧
    ((after (.attemptError ⟨3, .inArbitration, .nothing⟩) s).port 3).queue = [frame] := by decide

/-! ### States that meet the hypotheses of the statements -/

/-- A debounce timer that has run out, with the level at the pin. -/
def ranOut (pin level : Bool) : Line := { pin := pin, level := level, prev := level, debounce := some 0 }

/-- The state with a debounce timer of a line that has run out. -/
def withRanOut (l : InputLine) (pin level : Bool) (s : State) : State := s.setLine l (ranOut pin level)

/-- DRIVE with a falling IGN edge due, and PARKED with a rising one. -/
def driveOff : State := withRanOut .ign false true drive
def parkedOn : State := withRanOut .ign true false parked

/-- UNCONFIGURED with a verified table in the standby bank. -/
def loaded : State := { State.reset with store := { State.reset.store with bank1 := nightBank, standby := .verified } }

/-- PARKED with B_rem 0 and a class-0 group UP. -/
def drained : State := withRemainder 0 (parked.setGroup 0 (channel .up (.linger 100) (some 0)))

/-- The state with another active bank. -/
def withBank (m : Memory) (s : State) : State := { s with store := { s.store with bank0 := m } }

/-- The state with a management agent in a state. -/
def withAgent (x : AgentState) (s : State) : State := { s with agent := { s.agent with state := x, opLeft := some 1 } }

/-- Nothing waits in the states of these tests, so a request arrives in them as they are. -/
theorem witness_requests_arrive (d : List Byte) :
    drive.requestArrives d = drive ∧ parked.requestArrives d = parked ∧ loaded.requestArrives d = loaded ∧
    (withService parked).requestArrives d = withService parked ∧ (withService drive).requestArrives d = withService drive ∧
    (withAgent .verifying drive).requestArrives d = withAgent .verifying drive ∧
    (withAgent .copying drive).requestArrives d = withAgent .copying drive :=
  ⟨rfl, rfl, rfl, rfl, rfl, rfl, rfl⟩

theorem witness_StepTakesFrontCommand :
    ({ parked with pending := [.settlement, .ignEdge] } : State).pending = .settlement :: [.ignEdge] := rfl

theorem witness_EmptyQueueStepTakesDueEventOrTime :
    State.reset.pending = [] ∧ dueCommand State.reset = none ∧ driveOff.pending = [] ∧ dueCommand driveOff = some .ignEdge := by decide

theorem witness_ModeChangesOnlyByItsEvents :
    (∃ t, exec .ignEdge driveOff = .next t ∧ t.mode.mode ≠ driveOff.mode.mode) ∧
    (∃ t, exec .ignEdge parkedOn = .next t ∧ t.mode.mode ≠ parkedOn.mode.mode) ∧
    (∃ t, exec (.swap []) loaded = .next t ∧ t.mode.mode ≠ loaded.mode.mode) ∧ drive.mode.configured = true :=
  ⟨⟨_, rfl, by decide⟩, ⟨_, rfl, by decide⟩, ⟨_, rfl, by decide +kernel⟩, rfl⟩

theorem witness_TableChangesOnlyByItsEvents :
    (∃ t, exec (.writeTable [1]) { drive with agent := { drive.agent with pointer := { role := .standby, page := 0, column := 0 } } } = .next t ∧
      t.store.standbyBank ≠ drive.store.standbyBank) ∧
    (∃ t, exec .copyComplete (withAgent .copying drive) = .next t ∧ t.store.standbyBank ≠ drive.store.standbyBank) ∧
    (∃ t, exec (.swap []) loaded = .next t ∧ t.store.activeIsOne ≠ loaded.store.activeIsOne) ∧
    (∃ t, exec (.lock [0, 2]) (withService drive) = .next t ∧ t.store.lockPages ≠ drive.store.lockPages) ∧
    (∃ t, exec .verificationComplete (withAgent .verifying drive) = .next t ∧ t.store.verifyFault ≠ drive.store.verifyFault) :=
  ⟨⟨_, rfl, by decide⟩, ⟨_, rfl, by decide⟩, ⟨_, rfl, by decide +kernel⟩, ⟨_, rfl, by decide⟩, ⟨_, rfl, by decide⟩⟩

theorem witness_BudgetMovesOnlyByItsEvents :
    (∃ t, exec .settlement parked = .next t) ∧ (∃ t, exec (.classification 0) parked = .next t) ∧
    (∃ t, exec (.swap []) parked = .next t) ∧ parked.mode.configured = true ∧ Instr.settlement ≠ .ignEdge ∧
    (∀ args : List Byte, Instr.settlement ≠ .swap args) :=
  ⟨⟨_, rfl⟩, ⟨_, rfl⟩, ⟨_, rfl⟩, rfl, nofun, nofun⟩

/-! The laws hold in states that are not the one after reset, and a step can be taken there. -/

theorem witness_StepKeepsPortsLaw : PortsLaw drained.sync ∧ ∃ t, step drained.sync = .next t := by
  refine ⟨?_, ⟨_, rfl⟩⟩
  unfold PortsLaw PortLaw
  decide

theorem witness_StepKeepsCountersAndHistoryLaw :
    CountersLaw (parked.count 4 .rxOk) ∧ HistoryLaw (takeWake (request 0xFF 0) parked).1 ∧ ∃ t, step (parked.count 4 .rxOk) = .next t := by
  refine ⟨?_, ?_, ⟨_, rfl⟩⟩
  · intro p c
    have h : ∀ (p : PortId) (i : Fin 11), ((parked.count 4 .rxOk).port p).counters.get i ≤ 65535 := by decide
    exact h p c.index
  · unfold HistoryLaw
    decide

theorem witness_StepKeepsHoldLaw :
    let s := { drained with hold := [{ frame := frame, dest := 0, remaining := 9, rule := none }] }
    HoldLaw s ∧ ∃ t, step s = .next t := by
  refine ⟨?_, ⟨_, rfl⟩⟩
  unfold HoldLaw
  decide

theorem witness_StepKeepsBanksAndVerifiedLaw : BanksLaw drive ∧ VerifiedLaw drive ∧ ∃ t, step drive = .next t := by
  refine ⟨?_, ?_, ⟨_, rfl⟩⟩
  · unfold BanksLaw
    decide
  · unfold VerifiedLaw
    decide

theorem witness_StepKeepsGroupsLaw : GroupsLaw drained ∧ ∃ t, step drained = .next t := by
  refine ⟨?_, ⟨_, rfl⟩⟩
  unfold GroupsLaw GroupLaw
  decide

theorem witness_StepKeepsExhaustionLaw :
    GroupsLaw drained ∧ ExhaustionLaw drained ∧ drained.mode.mode = .parked ∧ drained.charge.bRem = 0 ∧ ∃ t, step drained = .next t := by
  refine ⟨?_, ?_, rfl, by decide, ⟨_, rfl⟩⟩
  · unfold GroupsLaw GroupLaw
    decide
  · unfold ExhaustionLaw
    decide

theorem witness_StepKeepsAbsentLaw :
    let s := withBank (nightBank.write 116 0) drive
    AbsentLaw s ∧ s.mode.mode ≠ .unconfigured ∧ s.activeBank.present 7 = false ∧ ∃ t, step s = .next t := by
  refine ⟨?_, by decide, by decide, ⟨_, rfl⟩⟩
  unfold AbsentLaw
  decide

theorem witness_StepKeepsChargeAndLevelLaw :
    ChargeLaw parked ∧ LevelLaw parked ∧ parked.charge.loaded = true ∧ ∃ t, step parked = .next t := by
  refine ⟨?_, ?_, rfl, ⟨_, rfl⟩⟩
  · unfold ChargeLaw
    decide
  · unfold LevelLaw
    decide

theorem witness_StepKeepsModeAndStormLaw : ModeLaw parked ∧ StormLaw parked ∧ ∃ t, step parked = .next t := by
  refine ⟨?_, ?_, ⟨_, rfl⟩⟩
  · unfold ModeLaw
    decide
  · unfold StormLaw
    decide

theorem witness_RequestBytesRoundTrip :
    (Instr.status [0]).wellFormed = true ∧ requestBytes (.status [0]) = some [1, 0] ∧ ([] : List Byte).length ≤ 8 ∧
    ([0x10, 1, 2, 3, 4, 5, 6, 7] : List Byte).length ≤ 8 ∧ (Instr.unknownCommand []).wellFormed = true := by decide

theorem witness_PowerOnSetsEveryItem : PowerOnPins.allLow.fb = false ∧ ({ PowerOnPins.allLow with fb := true } : PowerOnPins).fb = true := by
  decide

theorem witness_PinChangeAndServiceEdge :
    (false = (parked.line .svc).pin) ∧ (true ≠ (parked.line .svc).pin ∧ true ≠ (parked.line .svc).level) ∧
    (false ≠ ((withRanOut .svc true false parked).line .svc).pin ∧ false = ((withRanOut .svc true false parked).line .svc).level) ∧
    (withRanOut .svc true false parked).lines.svc.debounce = some 0 ∧ parked.lines.svc.debounce = none := by decide

theorem witness_GpiEdgeWakesByLineRecord :
    let s := withRanOut (.gpi 3) false true parked
    let u := takeEdge (.gpi 3) 0 s
    (s.line (.gpi 3)).debounce = some 0 ∧ s.mode.mode ≠ .unconfigured ∧ (s.activeBank.lineRecord 3).edge = .fall ∧
    (s.line (.gpi 3)).pin = false ∧ u.condition (u.lineReference (s.activeBank.lineRecord 3).wake) (s.activeBank.lineRecord 3).cond = true ∧
    ((withRanOut (.gpi 3) true false parked).line (.gpi 3)).pin = true := by decide

theorem witness_UnconfiguredEdgesFollowFallback :
    State.reset.mode.mode = .unconfigured ∧ ((withRanOut (.gpi 0) true false State.reset).line (.gpi 0)).debounce = some 0 ∧
    (withRanOut .ign true false State.reset).lines.ign.debounce = some 0 := by decide

theorem witness_IgnitionOnEntersDrive :
    parkedOn.lines.ign.debounce = some 0 ∧ parkedOn.lines.ign.pin = true ∧ parkedOn.mode.mode = .parked ∧
    parkedOn.charge.timer = some 1000 ∧ (parkedOn.activeBank.groupRecord 0).driveForced = true ∧
    (parkedOn.activeBank.groupRecord 0).pgMode = .delay 32 ∧ (parkedOn.activeBank.groupRecord 0).settle ≠ 0 ∧
    (parkedOn.activeBank.groupRecord 7).driveForced = false ∧ ((parkedOn.elapse 0).group 0).state = .off := by decide

theorem witness_IgnitionOnEntersDrive_group_states :
    let bank := (nightBank.write 32 0xC0).write 38 0
    forcedChannel (bank.groupRecord 0) false (channel .off .stopped none) =
      { channel .powering (.powerGoodWait 10) (some 0) with faultGuard := 1 } ∧
    forcedChannel (bank.groupRecord 0) true (channel .off .stopped none) =
      { channel .releasing (.settle 10) (some 0) with watch := true, faultGuard := 1 } ∧
    (forcedChannel (bank.groupRecord 0) false (channel .draining (.drain 5) (some 1))).state = .fault ∧
    forcedChannel ((bank.write 39 0).groupRecord 0) true (channel .draining (.drain 5) (some 1)) =
      { channel .up .stopped (some 0) with watch := true } := by decide +kernel

theorem witness_IgnitionOffEntersParked :
    driveOff.lines.ign.debounce = some 0 ∧ driveOff.lines.ign.pin = false ∧ driveOff.mode.mode = .drive ∧
    driveOff.activeBank.parkBudget ≠ 0 ∧ (withBank [] driveOff).activeBank.parkBudget = 0 ∧
    lowClass ((after .ignEdge (withBank (((nightBank.write 2 0).write 3 0).write 4 0)
      (driveOff.setGroup 1 (channel .up (.linger 9) (some 1))))).group 1) = true := by decide

theorem witness_ReceivedFramesAreCounted :
    portBusOff ((withWaiting frame parked).port (quiet 0).port) = false ∧ (withWaiting frame parked).agent.request = none ∧
    portBusOff (parked.port 0) = false ∧ (parked.port 0).waiting = none ∧ ([1, 2] : List Byte).length = min (2#4).toNat 8 ∧
    (List.replicate 8 (0 : Byte)).length = min (15#4).toNat 8 ∧ ¬((1 : PortId) = 0 ∧ Ident.std 0x6A0 = .std parked.requestId) ∧
    ((0 : PortId) = 0 ∧ Ident.std 0x6A0 = .std parked.requestId) := by decide

theorem witness_AttemptStartsAtTheHead :
    let x : Port := { busyPort with attempt := .idle }
    (x.state = .active ∧ portBusOff x = false ∧ x.queue ≠ [] ∧ x.attempt = .idle) ∧ Port.atPowerOn.state ≠ .active := by decide

theorem witness_LostArbitrationIsNotCounted :
    let s := parked.setPort 2 busyPort
    ((s.port 2).waiting = none ∧ ([1, 2] : List Byte).length = min (2#4).toNat 8) ∧
    ((s.port 2).attempt = .head ∧ (s.port 2).state = .active ∧ portBusOff (s.port 2) = false ∧ (s.port 2).queue ≠ []) ∧
    ((parked.setPort 2 { Port.atPowerOn with attempt := .completing frame }).port 2).attempt = .completing frame ∧
    (parked.port 2).attempt = .idle := by decide

theorem witness_AcknowledgedAttemptCountsTxOk :
    ((parked.setPort 2 busyPort).port 2).attempt = .head ∧
    ((parked.setPort 2 { Port.atPowerOn with attempt := .completing frame }).port 2).attempt = .completing frame ∧
    (parked.port 2).attempt = .idle := by decide

theorem witness_FailedAttemptIsRetriedSevenTimes :
    (let c := Instr.attemptError ⟨2, .inArbitration, .nothing⟩
     c = .attemptNotAcknowledged ⟨2, false, .nothing⟩ ∨ c = .attemptError ⟨2, .inArbitration, .nothing⟩) ∧
    ErrorPlace.inArbitration ≠ .beyondArbitration ∧ (busyPort.attempt ≠ .idle ∧ (parked.port 2).attempt = .idle) ∧
    portBusOff ((after (.attemptError ⟨2, .inArbitration, .nothing⟩) (parked.setPort 2 busyPort)).port 2) = false ∧
    portBusOff ((after (.attemptError ⟨2, .inArbitration, .nothing⟩) (parked.setPort 2 { busyPort with txErrors := 255 })).port 2) = true ∧
    (let s := parked.setPort 2 { busyPort with attempts := 6 }
     (s.port 2).attempt = .head ∧ (s.port 2).attempts + 1 < 8) ∧
    (let s := parked.setPort 2 { busyPort with attempts := 7 }
     (s.port 2).attempt = .head ∧ 8 ≤ (s.port 2).attempts + 1) ∧
    ((parked.setPort 2 { Port.atPowerOn with attempt := .completing frame }).port 2).attempt = .completing frame := by decide

theorem witness_BusOffPortIsSilentUntilRecovery :
    (busyPort.attempt ≠ .idle ∧ (parked.port 2).rxErrors ≤ 127 ∧ (parked.port 2).rxErrors ≤ 255 ∧
     127 < ({ busyPort with rxErrors := 128 } : Port).rxErrors) ∧
    (Instr.remoteRequestFrame (quiet 2) (.std 0) = .remoteRequestFrame (quiet 2) (.std 0)) ∧
    portBusOff ((parked.setPort 2 { busyPort with txErrors := 256 }).port 2) = true ∧ portBusOff (parked.port 2) = false := by decide

theorem witness_OffersFollowStateAndRoom :
    (let x : Port := { busyPort with queue := List.replicate 15 frame }
     x.state = .active ∧ x.queue.length < 16) ∧
    (let x : Port := { busyPort with queue := List.replicate 16 frame }
     x.state = .active ∧ 16 ≤ x.queue.length) ∧
    (parked.port 1).state = .listen ∧ parked.hold.length < 48 ∧
    48 ≤ (List.replicate 48 ({ frame := frame, dest := 1, remaining := 1, rule := none } : HoldEntry)).length := by decide

theorem witness_ChangesAreMadeKnownToPorts :
    (let s := drained.setPort 1 busyPort
     s.awake 0 = true ∧ s.awake 1 = false ∧ (s.port 1).state = .active ∧ (s.port 1).attempt = .head ∧ (s.port 1).queue = [frame] ∧
     s.prospects 0 = true ∧ s.prospects 1 = false) ∧
    (drained.port 2).state = .listen ∧ ((drained.setPort 1 { busyPort with attempt := .idle }).port 1).attempt ≠ .head := by decide

theorem witness_SearchGathersTheChain :
    (chainOf parked 0 frame (parked.activeBank.entriesFrom listFuel 256 0)).map (fun x => x.1) = [0, 1] ∧
    (searchRules parked 0 frame).cls = some 2 ∧
    (∀ q : PortId, (0x12 : PortSet).getLsbD q = ((0x12 : PortSet).getLsbD q && q != 0)) ∧
    (match nightBank.entryAt 272 with
      | .rule e => !e.long
      | .unknown | .last => false) = true ∧
    BudgetLevel.opened = (if State.reset.mode.mode = .unconfigured then .opened else State.reset.charge.level) := by decide

theorem witness_BlockedFrameIsDropped :
    let s := withWaiting frame (withRemainder 8999727 parked)
    (s.port 0).waiting = some frame ∧ s.mode.mode ≠ .unconfigured ∧ (searchRules s 0 frame).blocked = true := by decide

theorem witness_UnmatchedFrameGoesByDefaultRoute :
    (let f : Frame := { frame with ident := .std 0x7FF }
     let s := withWaiting f drained
     (s.port 0).waiting = some f ∧ s.mode.mode ≠ .unconfigured ∧ (searchRules s 0 f).blocked = false ∧ (searchRules s 0 f).rule = none) ∧
    ((withWaiting frame State.reset).port 0).waiting = some frame ∧ State.reset.mode.mode = .unconfigured ∧
    drained.awake 0 = true ∧ drained.hasHeld 0 = false ∧ drained.awake 1 = false ∧
    ({ drained with hold := [{ frame := frame, dest := 0, remaining := 1, rule := none }] } : State).hasHeld 0 = true := by decide

theorem witness_MatchedFrameIsAppliedInOrder :
    let s := withWaiting frame parked
    let w := searchRules s 0 frame
    let r : WakeRequest := ⟨w.wake, w.cls.getD 3, .frame, some (.port 0), some 0, some frame.ident⟩
    let u := (takeWake r (w.reports.foldl
        (fun t o => t.takeReport (if o + 2 ≤ frame.data.length then some (dataWord frame.data o).toNat else none))
        (s.setPort 0 { s.port 0 with waiting := none }))).1
    (s.port 0).waiting = some frame ∧ s.mode.mode ≠ .unconfigured ∧ w.blocked = false ∧ w.rule = some 0 ∧
    u.awake 4 = false ∧ u.hasHeld 4 = false ∧ w.hold = true ∧ u.groupComing 4 = true ∧ u.groupComing 3 = false := by decide

/-- The other cases of R54, each in a state that a wake request leaves: a frame of its own for each. -/
theorem witness_MatchedFrameIsAppliedInOrder_awake :
    let held : HoldEntry := { frame := frame, dest := 4, remaining := 5, rule := none }
    let s := withWaiting frame ((parked.setGroup 4 (channel .up (.linger 5) (some 1))).sync)
    let u := after (.classification 0) s
    let v := after (.classification 0) { s with hold := [held] }
    (searchRules s 0 frame).rule = some 0 ∧ u.awake 4 = true ∧ u.hasHeld 4 = false ∧ v.hasHeld 4 = true ∧ v.hold.length = 3 ∧
    (destinations (searchRules parked 0 { frame with ident := .std 0x2F0 }).forward 0) = [] := by decide

theorem witness_BatteryReportLowersBudget :
    parked.mode.mode = .parked ∧ parked.charge.loaded = true ∧ parked.charge.bRem ≤ 36000 * 1000 ∧ 35999 * 1000 < parked.charge.bRem ∧
    parked.charge.bRem ≠ 0 ∧ drive.mode.mode ≠ .parked := by decide

theorem witness_HoldEntriesAreReleasedOrExpire :
    let e : HoldEntry := { frame := frame, dest := 0, remaining := 9, rule := none }
    let s : State := { drained.sync with hold := [{ e with dest := 1 }] ++ e :: [] }
    s.hold = [{ e with dest := 1 }] ++ e :: [] ∧ (∀ x ∈ [{ e with dest := 1 }], x.dest ≠ 0) ∧ (s.port 0).state = .active ∧
    (s.port 0).queue.length < 16 ∧ (s.port 1).state = .listen ∧ s.hold[(1 : Fin 48).val]? = some e ∧ s.hold.length ≤ (2 : Fin 48).val ∧
    (drained.sync.hold = [] ∧ ∀ x ∈ drained.sync.hold, x.dest ≠ 0) := by decide

theorem witness_PowerGoodTakesGroupToReleasing :
    ((parked.params 6).pgMode = .wait ∧ parked.pg.getLsbD 6 = false) ∧
    (let s := parked.setGroup 6 (channel .powering (.powerGoodWait 5) (some 1))
     (s.group 6).state = .powering ∧ (s.group 6).timer = .powerGoodWait 5 ∧ (s.params 6).pgMode = .wait ∧
     ({ s with pg := s.pg ||| (1#8 <<< (6 : GroupId).val) } : State).pg.getLsbD 6 = true ∧ (s.params 6).settle ≠ 0) ∧
    (let s := parked.setGroup 3 (channel .powering (.powerGoodDelay 5) (some 1))
     (s.group 3).timer = .powerGoodDelay 5 ∧ (s.params 3).pgMode ≠ .wait ∧ (s.params 3).settle = 0) := by decide

theorem witness_FaultsSwitchTheGroupOff :
    (let s := parked.setGroup 6 (channel .powering (.powerGoodWait 5) (some 1))
     (s.group 6).state = .powering ∧ (s.group 6).timer = .powerGoodWait 5) ∧
    (let s := parked.setGroup 6 { channel .up (.linger 5) (some 1) with watch := true }
     (s.group 6).state = .up ∧ (s.group 6).watch = true) ∧
    ((parked.setGroup 6 (channel .draining (.drain 5) (some 1))).group 6).state = .draining ∧ (parked.group 6).state = .off := by decide

theorem witness_SequenceTimersMoveTheGroupOn :
    ((parked.setGroup 6 (channel .releasing (.settle 5) (some 1))).group 6).timer = .settle 5 ∧
    ((parked.setGroup 6 (channel .up (.linger 5) (some 1))).group 6).timer = .linger 5 ∧ (parked.params 6).drain ≠ 0 ∧
    ((parked.setGroup 3 (channel .up (.linger 5) (some 1))).group 3).timer = .linger 5 ∧ (parked.params 3).drain = 0 ∧
    ((parked.setGroup 6 (channel .draining (.drain 5) (some 1))).group 6).timer = .drain 5 := by decide

theorem witness_WakeIsRefusedInFaultAndQuarantine :
    ((withBank [] parked).params 6).present = false ∧ (parked.params 6).present = true ∧
    ((parked.setGroup 6 (channel .fault .stopped none)).group 6).state = .fault ∧
    ((parked.setGroup 6 (channel .quarantined .stopped none)).group 6).state = .quarantined := by decide

theorem witness_WakeFromOffMeetsStormThenBudget :
    (parked.params 6).present = true ∧ (parked.group 6).state = .off ∧ parked.mode.mode = .parked ∧
    parked.activeBank.stormLimit ≤ ((parked.setStorm 6 { count := 3, window := none, quarantine := none }).stormOf 6).count ∧
    (parked.stormOf 6).count < parked.activeBank.stormLimit ∧
    (withRemainder 9009024 parked).grants 3 ((parked.params 6).inrush + costFromUp (parked.params 6)) = false ∧
    (withRemainder 9009025 parked).grants 3 ((parked.params 6).inrush + costFromUp (parked.params 6)) = true ∧
    ((parked.params 6).pgMode = .wait ∧ parked.pg.getLsbD 6 = false) ∧ ({ parked with pg := 0x40 } : State).pg.getLsbD 6 = true ∧
    (parked.params 3).pgMode = .delay 16 ∧ drive.mode.mode ≠ .parked := by
  decide

theorem witness_WakeOnTheWayUpOnlyLowersClass :
    let s := parked.setGroup 6 (channel .powering (.powerGoodWait 5) (some 2))
    (s.params 6).present = true ∧ (s.group 6).state = .powering ∧ (s.group 6).grantClass = some 2 ∧ (request 0x40 0).cls = 0 := by decide

theorem witness_WakeInUpAndDraining :
    (let s := parked.setGroup 6 (channel .up (.linger 5) (some 2))
     (s.params 6).present = true ∧ (s.group 6).grantClass = some 2 ∧ (s.group 6).state = .up ∧ (s.group 6).timer = .linger 5 ∧
     (withRemainder 9008999 s).grants 3 (costFromUp (s.params 6)) = false ∧ (withRemainder 9009000 s).grants 3 (costFromUp (s.params 6)) = true) ∧
    ((parked.setGroup 6 (channel .up .stopped (some 2))).group 6).timer = .stopped ∧
    (let s := { parked.setGroup 6 (channel .draining (.drain 5) (some 2)) with pg := 0x40 }
     (s.group 6).state = .draining ∧ s.grants 3 (costFromUp (s.params 6)) = true ∧ (s.params 6).settle ≠ 0 ∧
     (s.params 6).pgMode = .wait ∧ s.pg.getLsbD 6 = true) := by decide

theorem witness_ExhaustionForcesLowClasses :
    (let s := parked.setGroup 6 (channel .powering (.powerGoodWait 5) (some 1))
     lowClass (s.group 6) = true ∧ (s.group 6).state = .powering) ∧
    (let s := parked.setGroup 6 (channel .up (.linger 5) (some 3))
     lowClass (s.group 6) = true ∧ (s.group 6).state = .up ∧ (s.params 6).drain ≠ 0 ∧ (s.params 3).drain = 0) ∧
    lowClass (drained.group 0) = false := by decide

theorem witness_TimePassesForTimersAndDraw :
    parked.mode.mode = .parked ∧ parked.charge.timer = some 1000 ∧ 1000 ≤ 1000 ∧ drive.mode.mode ≠ .parked ∧
    ((parked.setGroup 6 (channel .up (.linger 5) (some 3))).group 6).timer = .linger 5 := by decide

theorem witness_SettlementDebitsTheInterval :
    parked.mode.mode = .parked ∧ parked.charge.timer = some 1000 ∧ parked.charge.loaded = true ∧ parked.charge.bRem ≠ 0 ∧
    nightBank.baseDraw * 1000 / 1000 < parked.charge.bRem ∧ (withRemainder 12 parked).charge.bRem ≤ nightBank.baseDraw * 1000 / 1000 ∧
    (withRemainder 0 parked).charge.bRem = 0 := by decide

theorem witness_StormTimersRunOut :
    ((parked.setStorm 1 { count := 1, window := some 7, quarantine := none }).stormOf 1).window = some 7 ∧ (parked.stormOf 1).window = none ∧
    (let s := (parked.setGroup 1 (channel .quarantined .stopped none)).setStorm 1 { count := 3, window := none, quarantine := some 7 }
     (s.group 1).state = .quarantined ∧ (s.stormOf 1).quarantine = some 7) := by decide

theorem witness_ModeClockAndLingerRunOut :
    ({ parked with mode := { parked.mode with parkSettle := some 3 } } : State).mode.parkSettle = some 3 ∧ parked.mode.parkSettle = none ∧
    (beginRequest parked).agent.linger = some 2000 ∧ parked.agent.linger = none := by decide

theorem witness_CostAndGrantTest : parked.mode.mode = .parked ∧ drive.mode.mode ≠ .parked := by decide

theorem witness_HistoryOverwritesTheOldest :
    let w := PlainRecord .fault 0 .supervision none (some .pgLost) parked
    (List.replicate 31 w).length < 32 ∧ (List.replicate 32 w).length = 32 ∧ 65535 ≤ 65535 := by decide

theorem witness_VerificationAndCopyComplete :
    (let s := withAgent .verifying { drive with store := { drive.store with bank1 := nightBank } }
     s.agent.state = .verifying ∧ verifyBank s.store.standbyBank = none) ∧
    verifyBank (withAgent .verifying drive).store.standbyBank = some { kind := .badMark, offset := 0 } ∧
    (withAgent .copying drive).agent.state = .copying ∧ drive.agent.state ≠ .verifying ∧ drive.agent.state ≠ .copying := by decide

theorem witness_SwapTakesTheNewTable :
    (loaded.extendedOpen ∧ loaded.agent.state = .idle ∧ loaded.store.standby = .verified ∧ loaded.mode.configured = false) ∧
    (let s : State := { drive with store := { drive.store with bank1 := nightBank.write 116 0, standby := .verified } }
     s.extendedOpen ∧ s.agent.state = .idle ∧ s.store.standby = .verified ∧ s.mode.configured = true ∧ s.mode.mode = .drive ∧
     s.store.standbyBank.present 7 = false ∧ s.store.standbyBank.present 0 = true) ∧
    (withService parked).extendedOpen := by
  unfold State.extendedOpen
  decide

theorem witness_RequestsAreTakenAndChecked :
    isCommandCode 0x99 = false ∧ ([] : List Byte).length ≤ 7 ∧
    (Instr.wake [0xFF, 4]).wellFormed = true ∧ requestBytes (.wake [0xFF, 4]) = some [0x14, 0xFF, 4] ∧
    requestRow (.wake [0xFF, 4]) = some ⟨0x14, [0xFF, 4], 3, true, false, false⟩ ∧ ([0xFF, 4] : List Byte).length + 1 = 3 ∧
    ([] : List Byte).length + 1 < 2 ∧ ¬parked.extendedOpen ∧ drive.extendedOpen ∧ drive.lines.svc.level = false := by
  unfold State.extendedOpen
  decide

theorem witness_ReadingRequestsReport :
    ([] : List Byte).length ≤ 6 ∧ (7 : Byte) = byteOf (7 : GroupId).val ∧ ([3] : List Byte) = 3 :: [] ∧ (31 : Byte).toNat ≤ 31 ∧
    (3 : Byte).toNat ≤ 3 ∧ (takeWake (request 0x02 0) parked).1.history.records[(0 : Byte).toNat]?.isSome = true ∧
    parked.history.records.length ≤ (0 : Byte).toNat ∧ (4 : Byte) = byteOf (4 : PortId).val ∧ (5 : Byte).toNat ≤ 5 := by decide

theorem witness_TableRequestsMoveThePointer :
    ([] : List Byte).length ≤ 4 ∧ ([0xAB] : List Byte).length ≤ 7 ∧ 1 ≤ ([0xAB] : List Byte).length ∧ drive.extendedOpen ∧
    drive.store.standbyBank.wf = true ∧ drive.agent.state = .idle ∧ drive.agent.pointer.role = .active ∧ drive.agent.latch = none ∧
    (after (.setPointer [1, 15, 127]) drive).agent.pointer.role = .standby ∧ (withAgent .copying drive).agent.state ≠ .idle ∧
    (after (.readTable []) drive).agent.latch.isSome = true := by
  unfold State.extendedOpen
  decide

theorem witness_VerifyAbortAndLock :
    ([] : List Byte).length ≤ 7 ∧ drive.extendedOpen ∧ drive.agent.state = .idle ∧ (withAgent .verifying drive).agent.state = .verifying ∧
    (withAgent .copying drive).agent.state = .copying ∧ drive.store.standby ≠ .verified ∧ (withService drive).lines.svc.level = true ∧
    ([0, 2] : List Byte) = 0 :: 2 :: [] := by
  unfold State.extendedOpen
  decide

theorem witness_GroupRequestsActOnNamedGroups :
    ([] : List Byte).length ≤ 5 ∧ drive.extendedOpen ∧ (3 : Byte) = byteOf (3 : WakeClass).val ∧
    (takeWake (request 0x40 3) (beginRequest drive)).2 = 0 ∧
    (∀ g : GroupId, (0x40 : GroupSet).getLsbD g =
      ((0x40 : GroupSet).getLsbD g && ((takeWake (request 0x40 3) (beginRequest drive)).1.group g).state.supplyOn)) ∧
    (∀ g : GroupId, (0x04 : GroupSet).getLsbD g =
      ((0xFF : GroupSet).getLsbD g && ((drive.setGroup 2 (channel .fault .stopped none)).group g).state == .fault)) ∧
    (∀ g : GroupId, (0x04 : GroupSet).getLsbD g =
      ((0xFF : GroupSet).getLsbD g && ((drive.setGroup 2 (channel .quarantined .stopped none)).group g).state == .quarantined)) := by
  unfold State.extendedOpen
  decide

theorem witness_ClearHistoryEmptiesTheHistory :
    ([] : List Byte).length ≤ 7 ∧
    (let s : State := { drive with agent := { drive.agent with request := some [0x17] } }
     s.extendedOpen ∧ s.agent.request = some (0x17 :: [])) ∧
    (let v : State := { parked with agent := { parked.agent with request := some [0x04, 31, 3] } }
     v.agent.request = some (0x04 :: 31 :: 3 :: []) ∧ v.history = { records := [], overwrites := 0 }) ∧
    parked.history = { records := [], overwrites := 0 } ∧ (31 : Byte).toNat ≤ 31 ∧
    (3 : Byte).toNat ≤ 3 ∧ (takeWake (request 0xFF 0) drive).1.history.records.length = 8 := by
  unfold State.extendedOpen
  decide

end Sys2Proof.Tests
end

section
/-! Chapter 3: the search of the rule list as the gathering of a chain, and what a blocked frame does (R40, R46 to R49). -/

namespace Sys2Proof.Machine

/-! ### The search gathers the chain -/

/-- The contributions of a list of entries, each with its rule index, are added to a working record in order (R46, R47). -/
def gather (w : WorkingRecord) (entries : List (Nat × RuleEntry)) : WorkingRecord :=
  entries.foldl (fun w x => contribute x.1 x.2 w) w

@[simp] theorem gather_nil (w : WorkingRecord) : gather w [] = w := rfl

@[simp] theorem gather_cons (w : WorkingRecord) (x : Nat × RuleEntry) (rest : List (Nat × RuleEntry)) :
    gather w (x :: rest) = gather (contribute x.1 x.2 w) rest := rfl

theorem search_eq_gather (s : State) (src : PortId) (f : Frame) (fuel pos index : Nat) (w : WorkingRecord) :
    search s src f fuel pos index w = gather w (chainOf s src f (s.activeBank.entriesFrom fuel pos index)) := by
  induction fuel generalizing pos index w with
  | zero => rfl
  | succ fuel ih =>
    cases he : s.activeBank.entryAt pos with
    | unknown | last => simp [search, Memory.entriesFrom, he, chainOf]
    | rule e =>
      by_cases hm : entryMatches s src f e = true
      · by_cases hc : e.cont = true <;> simp [search, Memory.entriesFrom, he, chainOf, hm, hc, ih]
      · simp [search, Memory.entriesFrom, he, chainOf, hm, ih]

theorem searchRules_eq_gather (s : State) (src : PortId) (f : Frame) :
    searchRules s src f = gather WorkingRecord.empty (chainOf s src f (s.activeBank.entriesFrom listFuel 256 0)) :=
  search_eq_gather s src f _ _ _ _

/-- The block mark, once set, stays, and an entry sets it exactly when its action is BLOCK (R46). -/
theorem gather_blocked (w : WorkingRecord) (entries : List (Nat × RuleEntry)) :
    (gather w entries).blocked = (w.blocked || entries.any (fun x => x.2.action == .block)) := by
  induction entries generalizing w with
  | nil => simp
  | cons x rest ih => simp [ih, contribute, Bool.or_assoc]

theorem searchRules_blocked (s : State) (src : PortId) (f : Frame) :
    (searchRules s src f).blocked =
      (chainOf s src f (s.activeBank.entriesFrom listFuel 256 0)).any (fun x => x.2.action == .block) := by
  rw [searchRules_eq_gather, gather_blocked]
  exact Bool.false_or _

/-- A BLOCK entry in any position of the chain sets the block mark (R49). -/
theorem searchRules_blocked_of_mem {s : State} {src : PortId} {f : Frame} {x : Nat × RuleEntry}
    (hx : x ∈ chainOf s src f (s.activeBank.entriesFrom listFuel 256 0)) (hb : x.2.action = .block) :
    (searchRules s src f).blocked = true := by
  rw [searchRules_blocked, List.any_eq_true]
  exact ⟨x, hx, by simp [hb]⟩

/-! ### The search does not read the ports -/

@[simp] theorem entryMatches_setPort (s : State) (p : PortId) (x : Port) (src : PortId) (f : Frame) (e : RuleEntry) :
    entryMatches (s.setPort p x) src f e = entryMatches s src f e := rfl

@[simp] theorem chainOf_setPort (s : State) (p : PortId) (x : Port) (src : PortId) (f : Frame) (entries : List (Nat × RuleEntry)) :
    chainOf (s.setPort p x) src f entries = chainOf s src f entries := by
  induction entries with
  | nil => rfl
  | cons y rest ih => simp [chainOf, ih]

@[simp] theorem searchRules_setPort (s : State) (p : PortId) (x : Port) (src : PortId) (f : Frame) :
    searchRules (s.setPort p x) src f = searchRules s src f := by
  simp [searchRules_eq_gather]

/-! ### The classifier -/

theorem takeFrame_of_waiting {p : PortId} {s : State} {f : Frame} (h : (s.port p).waiting = some f) :
    s.takeFrame p = classifyFrame p f (s.setPort p { s.port p with waiting := none }) := by
  rw [State.takeFrame, h]

theorem classifyFrame_of_blocked {src : PortId} {f : Frame} {s : State} (hm : s.mode.mode ≠ .unconfigured)
    (hb : (searchRules s src f).blocked = true) : classifyFrame src f s = s.count src .rxBlocked := by
  unfold classifyFrame
  split
  · exact absurd ‹_› hm
  all_goals exact if_pos hb

/-- R49: a blocked frame is taken from its port and counted there. -/
theorem takeFrame_of_blocked {p : PortId} {s : State} {f : Frame} (hw : (s.port p).waiting = some f)
    (hm : s.mode.mode ≠ .unconfigured) (hb : (searchRules s p f).blocked = true) :
    s.takeFrame p = s.setPort p (countBy .rxBlocked 1 { s.port p with waiting := none }) := by
  let u := s.setPort p { s.port p with waiting := none }
  have hu : (searchRules u p f).blocked = true := by rwa [searchRules_setPort]
  calc s.takeFrame p = classifyFrame p f u := takeFrame_of_waiting hw
    _ = u.count p .rxBlocked := classifyFrame_of_blocked (s := u) hm hu
    _ = s.setPort p (countBy .rxBlocked 1 { s.port p with waiting := none }) := by
      rw [State.count, port_setPort_self, setPort_setPort]

/-- Settles O33: the chain's BLOCK entry sets the block mark, and a marked frame is taken and counted. -/
theorem blockedFrameIsDropped : Obligations.BlockedFrameIsDropped := by
  intro p s f hw hm hblock
  have hb : (searchRules s p f).blocked = true := by
    rcases hblock with hb | ⟨x, hx, hxb⟩
    · exact hb
    · exact searchRules_blocked_of_mem hx hxb
  refine ⟨_, (exec_classification p s).trans (congrArg _ (takeFrame_of_blocked hw hm hb)), onlyPort_setPort p s _, ?_, ?_⟩
  · rw [port_setPort_self]
    exact counted_countBy .rxBlocked 1 { s.port p with waiting := none }
  · rw [port_setPort_self]
    rfl

end Sys2Proof.Machine
end

section
/-! Chapter 5: a request for a group on its way up (R86). -/

namespace Sys2Proof.Machine

/-- R90: a class is taken only where it is lower. -/
theorem lowerClass_some (held c : WakeClass) : lowerClass (some held) c = some (if c < held then c else held) := by
  rw [lowerClass, min_comm, min_def_lt]

/-- R86: for a present group in POWERING or RELEASING the request reaches the grant class alone, and is not refused. -/
theorem takeWakeGroup_of_onTheWayUp {r : WakeRequest} {g : GroupId} {s : State} (hp : (s.params g).present = true)
    (hup : (s.group g).state = .powering ∨ (s.group g).state = .releasing) :
    takeWakeGroup r g s =
      (s.setGroup g { s.group g with grantClass := lowerClass (s.group g).grantClass r.cls }, false) := by
  rcases hup with h | h <;> simp [takeWakeGroup, hp, h]

/-- R92: exhaustion passes over a group outside classes 1 to 3. -/
theorem forceGroup_of_not_lowClass {g : GroupId} {s : State} (h : lowClass (s.group g) = false) : forceGroup s g = s := by
  simp [forceGroup, h]

theorem lowClass_of_zero {x : Group} (h : x.grantClass = some 0) : lowClass x = false := by
  simp [lowClass, h]

/-- No class lies below class 0, so a request of class 0 brings every held class to 0. -/
theorem lowerClass_some_zero (held : WakeClass) : lowerClass (some held) 0 = some 0 := by
  rw [lowerClass, min_eq_right (Fin.zero_le held)]

/-- Settles O43: the request's branch of the take, the frame of a take, and the class test of exhaustion. -/
theorem wakeOnTheWayUpOnlyLowersClass : Obligations.WakeOnTheWayUpOnlyLowersClass := by
  intro r g s c hp hup hc
  have htake := takeWakeGroup_of_onTheWayUp (r := r) hp hup
  rw [hc] at htake
  refine ⟨?_, fun h hne => group_takeWakeGroup_ne r s hne, fun h0 => forceGroup_of_not_lowClass (lowClass_of_zero ?_)⟩
  · rw [htake, lowerClass_some]
  · rw [htake, group_setGroup_self, h0, lowerClass_some_zero]

end Sys2Proof.Machine
end

section
/-! Chapter 8: the wake history after a CLEAR-HISTORY (R145). -/

namespace Sys2Proof.Machine

/-! ### A request that waits -/

/-- A request that waits is taken from where it waits; nothing is taken before it (R146). -/
theorem requestArrives_of_waiting {d : List Byte} {s : State} (hw : s.agent.request = some d) : s.requestArrives d = s :=
  if_pos hw

theorem exec_request_of_waiting {c : Byte} {args : List Byte} {s : State} (hl : args.length ≤ 7)
    (hw : s.agent.request = some (c :: args)) : exec (decodeRequest (c :: args)) s = .next (takeRequest (c :: args) s) := by
  rw [exec_request (c :: args) s (Nat.succ_le_succ hl), requestArrives_of_waiting hw]

/-! ### The history around a CLEAR-HISTORY -/

/-- The first record written to a history without records stands alone. -/
theorem push_empty (n : Nat) (w : WakeRecord) :
    WakeHistory.push { records := [], overwrites := n } w = { records := [w], overwrites := n } := rfl

/-- Taking a request does not look at the history. -/
theorem beginRequest_history (s : State) (h : WakeHistory) :
    beginRequest { s with history := h } = { beginRequest s with history := h } := rfl

/-- A CLEAR-HISTORY that waits and passes its gating empties the history and is answered OK. -/
theorem exec_clearHistory_of_waiting {args : List Byte} {s : State} (hl : args.length ≤ 7) (ho : s.extendedOpen)
    (hw : s.agent.request = some (0x17 :: args)) :
    exec (.clearHistory args) s = .next (State.answered { beginRequest s with history := { records := [], overwrites := 0 } }
      [0x17, 0, 0, 0, 0, 0, 0, 0]) := by
  have hexec : exec (.clearHistory args) s = .next (serveClearHistory args s) :=
    exec_request_of_waiting (c := 0x17) hl hw
  have hserve : serveClearHistory args s = respond 0x17 (actClearHistory args (beginRequest s)) :=
    serve_passes s hl (by omega) ((gateOpen_extended s).mpr ho) rfl
  rw [hexec, hserve]
  rfl

/-- Whatever the history holds before it is gone after a CLEAR-HISTORY. -/
theorem exec_clearHistory_forgets {args : List Byte} {s : State} (hl : args.length ≤ 7) (ho : s.extendedOpen)
    (hw : s.agent.request = some (0x17 :: args)) (h : WakeHistory) :
    exec (.clearHistory args) { s with history := h } = exec (.clearHistory args) s := by
  rw [exec_clearHistory_of_waiting hl ho hw, exec_clearHistory_of_waiting (s := { s with history := h }) hl ho hw,
    beginRequest_history]

/-- Past the records held a READ-HISTORY finds no data, whatever part it asks for (R144). -/
theorem actReadHistory_of_no_record {args : List Byte} {s : State} (h : s.history.records.length ≤ argAt args 0) :
    actReadHistory args s =
      { state := s, status := .noData, results := byteOf s.history.records.length :: bytes16 s.history.overwrites } := by
  rw [actReadHistory, List.getElem?_eq_none h]

/-- From an empty history a READ-HISTORY that waits is answered NO_DATA for every index and part (R144, R162). -/
theorem exec_readHistory_of_empty {i part : Byte} {rest : List Byte} {s : State} (hl : rest.length ≤ 5) (hi : i.toNat ≤ 31)
    (hp : part.toNat ≤ 3) (hw : s.agent.request = some (0x04 :: i :: part :: rest))
    (he : s.history = { records := [], overwrites := 0 }) :
    exec (.readHistory (i :: part :: rest)) s = .next ((beginRequest s).answered [0x04, 1, 0, 0, 0, 0, 0, 0]) := by
  have hlen : (i :: part :: rest).length ≤ 7 := Nat.add_le_add_right hl 2
  have hexec : exec (.readHistory (i :: part :: rest)) s = .next (serveReadHistory (i :: part :: rest) s) :=
    exec_request_of_waiting (c := 0x04) hlen hw
  have hrange : (decide (argAt (i :: part :: rest) 0 ≤ 31) && decide (argAt (i :: part :: rest) 1 ≤ 3)) = true := by
    simp [argAt, hi, hp]
  have hserve : serveReadHistory (i :: part :: rest) s =
      respond 0x04 (actReadHistory (i :: part :: rest) (beginRequest s)) :=
    serve_passes s hlen (by simp) rfl hrange
  have hempty : (beginRequest s).history = { records := [], overwrites := 0 } := he
  rw [hexec, hserve, actReadHistory_of_no_record (by rw [hempty]; exact Nat.zero_le _), hempty]
  rfl

/-- Settles O60: the waiting request passes its checks and its action replaces the history, so neither what was held nor its count
is left for a READ-HISTORY to find. -/
theorem clearHistoryEmptiesTheHistory : Obligations.ClearHistoryEmptiesTheHistory := by
  rintro args s u hl ho hw rfl
  exact ⟨exec_clearHistory_of_waiting hl ho hw, ⟨rfl, rfl⟩, push_empty 0, fun w => exec_clearHistory_forgets hl ho hw _,
    fun v i part rest hreq he hi hp hr => exec_readHistory_of_empty hr hi hp hreq he⟩

end Sys2Proof.Machine
end

section
/-! What a single port may do by itself, between two changes of awakeness (R8 to R10, R17). -/

namespace Sys2Proof.Machine

/-! ### The law of one port -/

/-- The law of a port that speaks of the port alone (R8 to R10). -/
structure PortSound (x : Port) : Prop where
  listen : x.state = .listen → x.queue = []
  room : x.queue.length ≤ 16
  tries : x.attempts < 8
  fresh : x.queue = [] → x.attempts = 0
  head : x.attempt = .head → x.queue ≠ []

/-- Every counter of a port is within its range (R17). -/
def PortBounded (x : Port) : Prop := ∀ c : Counter, portCounter x c ≤ 65535

theorem portLaw_iff (s : State) (p : PortId) :
    PortLaw s p ↔ ((s.port p).state = .active ↔ s.awake p = true) ∧ PortSound (s.port p) :=
  ⟨fun ⟨ha, hl, hr, ht, hf, hh⟩ => ⟨ha, hl, hr, ht, hf, hh⟩, fun ⟨ha, h⟩ => ⟨ha, h.listen, h.room, h.tries, h.fresh, h.head⟩⟩

/-- The law reads only these four items of a port. -/
theorem PortSound.of_same {x y : Port} (hs : y.state = x.state) (hq : y.queue = x.queue) (hn : y.attempts = x.attempts)
    (ha : y.attempt = x.attempt) (h : PortSound x) : PortSound y := by
  obtain ⟨hl, hr, ht, hf, hh⟩ := h
  exact ⟨hs ▸ hq ▸ hl, hq ▸ hr, hn ▸ ht, hq ▸ hn ▸ hf, ha ▸ hq ▸ hh⟩

theorem PortBounded.of_counters {x y : Port} (h : PortBounded x) (hc : y.counters = x.counters) : PortBounded y :=
  fun c => portCounter_congr hc c ▸ h c

theorem PortBounded.countBy {x : Port} (h : PortBounded x) (c : Counter) (n : Nat) : PortBounded (countBy c n x) := by
  intro d
  by_cases hd : d = c
  · subst hd
    have := h d
    rw [portCounter_countBy_self]
    omega
  · rw [portCounter_countBy_ne n x hd]
    exact h d

/-! ### Moves of one port -/

/-- A port goes on by itself: its state stays, its law and the range of its counters are kept, and it takes no frame in to wait. -/
structure PortMove (x y : Port) : Prop where
  state : y.state = x.state
  sound : PortSound x → PortSound y
  bounded : PortBounded x → PortBounded y
  waiting : y.waiting = x.waiting ∨ y.waiting = none

theorem PortMove.refl (x : Port) : PortMove x x := ⟨rfl, id, id, .inl rfl⟩

theorem PortMove.trans {x y z : Port} (h : PortMove x y) (k : PortMove y z) : PortMove x z :=
  ⟨k.state.trans h.state, k.sound ∘ h.sound, k.bounded ∘ h.bounded,
    k.waiting.elim (fun e => h.waiting.imp e.trans e.trans) .inr⟩

/-- Counting, and any change of the error counters, of what waits and of nothing else. -/
theorem portMove_of_same {x y : Port} (hs : y.state = x.state) (hq : y.queue = x.queue) (hn : y.attempts = x.attempts)
    (ha : y.attempt = x.attempt) (hc : y.counters = x.counters) (hw : y.waiting = x.waiting ∨ y.waiting = none) : PortMove x y :=
  ⟨hs, .of_same hs hq hn ha, fun h => h.of_counters hc, hw⟩

theorem portMove_countBy (c : Counter) (n : Nat) (x : Port) : PortMove x (countBy c n x) :=
  ⟨rfl, .of_same rfl rfl rfl rfl, fun h => h.countBy c n, .inl rfl⟩

/-- The attempt on the bus is over and the head of the queue stays. -/
theorem portMove_idle (x : Port) : PortMove x { x with attempt := .idle } :=
  ⟨rfl, fun h => ⟨h.listen, h.room, h.tries, h.fresh, by simp⟩, fun h => h.of_counters rfl, .inl rfl⟩

/-- The head leaves the queue and the count of attempts starts anew (R10). -/
theorem portMove_headGone (x : Port) : PortMove x { x with queue := x.queue.tail, attempts := 0, attempt := .idle } :=
  ⟨rfl,
    fun h => ⟨fun hl => by simp [h.listen hl], by have := h.room; simp; omega, by simp, fun _ => rfl, by simp⟩,
    fun h => h.of_counters rfl, .inl rfl⟩

/-- R9: an offer is taken only where there is room. -/
theorem portMove_offerPort (f : Frame) (x : Port) : PortMove x (offerPort f x) := by
  unfold offerPort
  split
  · rename_i hactive
    split
    · rename_i hroom
      refine ⟨rfl, fun h => ⟨?_, ?_, h.tries, ?_, ?_⟩, fun h => h.of_counters rfl, .inl rfl⟩
      · simp [hactive]
      · simp only [Config.queueMax] at hroom
        simp
        omega
      · simp
      · simp
    · exact portMove_countBy _ _ x
  · exact portMove_countBy _ _ x

theorem portMove_headDelivered (x : Port) : PortMove x (headDelivered x) :=
  (portMove_countBy .txOk 1 x).trans (portMove_headGone _)

/-- R10: a failed attempt of a queued head is counted, or at the eighth the head is given up. -/
theorem portMove_headFailed {x : Port} (ha : x.attempt = .head) : PortMove x (headFailed x) := by
  unfold headFailed
  split
  · rename_i hn
    refine ⟨rfl, fun h => ⟨h.listen, h.room, hn, fun hq => absurd hq (h.head ha), by simp⟩, fun h => h.of_counters rfl, .inl rfl⟩
  · exact (portMove_countBy .txUndelivered 1 x).trans (portMove_headGone _)

theorem portMove_completingLost (x : Port) : PortMove x (completingLost x) :=
  (portMove_countBy .txUndelivered 1 x).trans (portMove_idle _)

theorem portMove_attemptDelivered (x : Port) : PortMove x (attemptDelivered x) := by
  unfold attemptDelivered
  split
  · exact portMove_headDelivered x
  · exact (portMove_countBy .txOk 1 x).trans (portMove_idle _)
  · exact .refl x

theorem portMove_attemptFailed (x : Port) : PortMove x (attemptFailed x) := by
  unfold attemptFailed
  split
  · exact portMove_headFailed ‹_›
  · exact portMove_completingLost x
  · exact .refl x

theorem portMove_attemptDropped (x : Port) : PortMove x (attemptDropped x) := by
  unfold attemptDropped
  split
  · exact portMove_idle x
  · exact portMove_completingLost x
  · exact .refl x

theorem portMove_txErrors (n : Nat) (x : Port) : PortMove x { x with txErrors := n } :=
  portMove_of_same rfl rfl rfl rfl rfl (.inl rfl)

theorem portMove_portReceivedGood (flags : FlagErrors) (x : Port) : PortMove x (portReceivedGood flags x) :=
  portMove_of_same rfl rfl rfl rfl rfl (.inl rfl)

theorem portMove_portReceivedBad (flags : FlagErrors) (x : Port) : PortMove x (portReceivedBad flags x) :=
  portMove_of_same rfl rfl rfl rfl rfl (.inl rfl)

theorem portMove_start {x : Port} (h : mayStart x = true) : PortMove x { x with attempt := .head } := by
  have hq : x.queue ≠ [] := by
    intro e
    simp [mayStart, e] at h
  exact ⟨rfl, fun k => ⟨k.listen, k.room, k.tries, k.fresh, fun _ => hq⟩, fun k => k.of_counters rfl, .inl rfl⟩

theorem portCounter_clearCounter (c d : Counter) (x : Port) :
    portCounter (clearCounter c x) d = if d = c then 0 else portCounter x d := by
  split
  · subst_vars
    simp [clearCounter, portCounter]
  · simp [clearCounter, portCounter, vector_get_set_ne, counter_index_ne ‹_›]

theorem portMove_clearCounter (c : Counter) (x : Port) : PortMove x (clearCounter c x) := by
  refine ⟨rfl, .of_same rfl rfl rfl rfl, fun h d => ?_, .inl rfl⟩
  rw [portCounter_clearCounter]
  split
  · exact Nat.zero_le _
  · exact h d

theorem portMove_clearPair (pair : Nat) (x : Port) : PortMove x (clearPair pair x) := by
  have two : ∀ c d, PortMove x (clearCounter d (clearCounter c x)) := fun c d =>
    (portMove_clearCounter c x).trans (portMove_clearCounter d _)
  unfold clearPair
  split
  · exact two _ _
  · exact two _ _
  · exact two _ _
  · exact two _ _
  · exact two _ _
  · exact portMove_clearCounter _ x

/-! ### A port when awakeness is made known -/

/-- R5, R8: whatever the awake condition, the port that follows it is sound. -/
theorem PortSound.syncPort {x : Port} (h : PortSound x) (awake : Bool) : PortSound (syncPort awake x) := by
  unfold Machine.syncPort
  split
  · exact ⟨by simp, h.room, h.tries, h.fresh, h.head⟩
  · refine ⟨fun _ => rfl, by simp [flushPort], by simp [flushPort], fun _ => rfl, fun hh => ?_⟩
    simp only [flushPort] at hh
    split at hh <;> simp_all
  · exact h

theorem PortBounded.syncPort {x : Port} (h : PortBounded x) (awake : Bool) : PortBounded (syncPort awake x) := by
  unfold Machine.syncPort
  split
  · exact h.of_counters rfl
  · exact (h.countBy .txUndelivered _).of_counters rfl
  · exact h

end Sys2Proof.Machine
end

section
/-! The parts of an event. Every event of the part is made of a few kinds of moves; each law is shown once for each kind. -/

namespace Sys2Proof.Machine

/-! ### Kinds of moves -/

/-- A channel that exhaustion leaves alone: not of class 1 to 3, or not in POWERING, RELEASING or UP (R91). -/
def Spared (x : Group) : Prop := lowClass x = true → x.state ≠ .powering ∧ x.state ≠ .releasing ∧ x.state ≠ .up

/-- In PARKED the budget is spent. -/
def State.budgetSpent (s : State) : Prop := s.mode.mode = .parked ∧ s.charge.bRem = 0

/-- What a channel `x` that replaces the one of group `g` keeps: the law of channels, that only present groups leave OFF, that a spent
budget holds low classes down, and that QUARANTINED is entered and left only with the storm record. -/
structure Change (s : State) (g : GroupId) (x : Group) : Prop where
  law : GroupLaw (s.group g) → GroupLaw x
  present : x.state = .off ∨ (s.group g).state ≠ .off ∨ (s.params g).present = true
  spent : s.budgetSpent → GroupLaw (s.group g) → Spared (s.group g) → Spared x
  enter : x.state = .quarantined → (s.group g).state = .quarantined
  leave : (s.group g).state = .quarantined → x.state ≠ .quarantined → (s.stormOf g).quarantine = none

/-- One part of an event that neither touches the rule store nor moves charge nor changes the mode. -/
inductive Move : State → State → Prop where
  /-- A port goes on by itself. -/
  | port (s p y) : PortMove (s.port p) y → Move s (s.setPort p y)
  /-- A received frame is left for the classifier; nothing waits where it arrives (R39). -/
  | receive (s : State) (p f) : (p = 0 → s.agent.request = none) → Move s (s.setPort p { s.port p with waiting := some f })
  /-- A received request is left for the agent (R4). -/
  | divert (s : State) (d) : (s.port 0).waiting = none → Move s { s with agent := { s.agent with request := some d } }
  /-- A frame is held for a port that has prospects, or a held run already (R61, R69). -/
  | hold (s : State) (e) : s.hold.length < 48 → s.prospects e.dest = true ∨ s.hasHeld e.dest = true → Move s { s with hold := s.hold ++ [e] }
  /-- Hold entries leave the queue (R64, R67). -/
  | unhold (s : State) (l) : l.Sublist s.hold → Move s { s with hold := l }
  /-- A group changes, and ports and hold queue follow (R76). -/
  | change (s : State) (g x) : Change s g x → Move s (s.changeGroup g x)
  /-- A group keeps its state, and timer or class change. -/
  | adjust (s : State) (g x) : x.state = (s.group g).state → Change s g x → Move s (s.setGroup g x)
  /-- A record is written (R140). -/
  | record (s : State) (w) : Move s { s with history := s.history.push w }
  /-- The history is cleared (R145). -/
  | forget (s : State) : Move s { s with history := { records := [], overwrites := 0 } }
  /-- A grant is counted (R132). -/
  | countStorm (s : State) (g ms) : s.mode.mode = .parked → (s.stormOf g).count < s.activeBank.stormLimit →
      (s.group g).state ≠ .quarantined → Move s (s.setStorm g (countGrant ms (s.stormOf g)))
  /-- A storm record is cleared (R136, R139). -/
  | clearStorm (s : State) (g) : Move s (s.setStorm g StormRecord.atPowerOn)
  /-- A storm window ends (R133). -/
  | closeWindow (s : State) (g) : Move s (s.setStorm g { s.stormOf g with count := 0, window := none })
  /-- A present group in OFF is quarantined (R134). -/
  | quarantine (s : State) (g w) : s.mode.mode = .parked → (s.params g).present = true →
      Move s ((s.setStorm g { s.stormOf g with window := none, quarantine := w }).changeGroup g
        { groupOff (s.group g) with state := .quarantined })
  /-- Inrush charge is added (R119). -/
  | inrush (s : State) (n) : Move s { s with charge := addInrush n s.charge }
  /-- A power-good level changes. -/
  | pg (s : State) (v) : Move s { s with pg := v }
  /-- A line changes, but not the debounced level of IGN. -/
  | line (s : State) (l x) : (l = .ign → x.level = s.lines.ign.level) → Move s (s.setLine l x)
  /-- The clocks of the mode controller go on. -/
  | clock (s : State) (time left park) : (park.isSome = true → s.mode.parkSettle.isSome = true) →
      (s.mode.modeTime ≤ 4294967295 → time ≤ 4294967295) →
      Move s { s with mode := { s.mode with modeTime := time, secondLeft := left, parkSettle := park } }
  /-- The agent's pointer and latch change. -/
  | point (s : State) (p l) : Move s { s with agent := { s.agent with pointer := p, latch := l } }
  /-- The management linger timer or the waiting request changes, and ports and hold queue follow (R148). -/
  | linger (s : State) (l r) : (r = s.agent.request ∨ r = none) →
      Move s ({ s with agent := { s.agent with linger := l, request := r } } : State).sync
  /-- Time passes. -/
  | elapse (s : State) (n) : Move s (s.elapse n)

/-- Some moves, one after the other. -/
abbrev Moves : State → State → Prop := Relation.ReflTransGen Move

theorem Moves.refl (s : State) : Moves s s := Relation.ReflTransGen.refl

theorem Move.moves {s t : State} (h : Move s t) : Moves s t := Relation.ReflTransGen.single h

theorem Moves.trans {s t u : State} (h : Moves s t) (k : Moves t u) : Moves s u := Relation.ReflTransGen.trans h k

/-- What every move keeps, some moves keep. -/
theorem Moves.keep {L : State → Prop} (hL : ∀ {s t}, Move s t → L s → L t) {s t : State} (h : Moves s t) (hs : L s) : L t := by
  induction h with
  | refl => exact hs
  | tail _ hm ih => exact hL hm ih

/-- An item that no move changes is unchanged by some moves. -/
theorem Moves.same {α : Type} {φ : State → α} (hφ : ∀ {s t}, Move s t → φ t = φ s) {s t : State} (h : Moves s t) : φ t = φ s :=
  h.keep (L := fun u => φ u = φ s) (fun hm hu => (hφ hm).trans hu) rfl

/-- Steps over a list, each of which is made of moves wherever `K` holds, which it keeps. -/
theorem moves_foldl_of {α : Type} {K : State → Prop} {f : State → α → State} (h : ∀ s a, K s → Moves s (f s a))
    (hK : ∀ s a, K s → K (f s a)) (l : List α) (s : State) (hs : K s) : Moves s (l.foldl f s) := by
  induction l generalizing s with
  | nil => exact .refl s
  | cons a l ih => exact (h s a hs).trans (ih _ (hK s a hs))

theorem moves_foldl {α : Type} {f : State → α → State} (h : ∀ s a, Moves s (f s a)) (l : List α) (s : State) :
    Moves s (l.foldl f s) := moves_foldl_of (K := fun _ => True) (fun s a _ => h s a) (fun _ _ _ => trivial) l s trivial

/-! ### What no move changes -/

/-- The items that no move changes: rule store, account but for inrush, mode but for its clocks, state of the agent. -/
structure Still (s t : State) : Prop where
  store : t.store = s.store
  mode : t.mode.mode = s.mode.mode
  configured : t.mode.configured = s.mode.configured
  straps : t.mode.ma1 = s.mode.ma1 ∧ t.mode.ma0 = s.mode.ma0 ∧ t.mode.fb = s.mode.fb
  pActive : t.charge.pActive = s.charge.pActive
  bRem : t.charge.bRem = s.charge.bRem
  spent : t.charge.spent = s.charge.spent
  cut : t.charge.cut = s.charge.cut
  ign : t.lines.ign.level = s.lines.ign.level
  agent : t.agent.state = s.agent.state
  pending : t.pending = s.pending

theorem Still.refl (s : State) : Still s s := ⟨rfl, rfl, rfl, ⟨rfl, rfl, rfl⟩, rfl, rfl, rfl, rfl, rfl, rfl, rfl⟩

theorem Still.trans {s t u : State} (h : Still s t) (k : Still t u) : Still s u :=
  ⟨k.store.trans h.store, k.mode.trans h.mode, k.configured.trans h.configured,
    ⟨k.straps.1.trans h.straps.1, k.straps.2.1.trans h.straps.2.1, k.straps.2.2.trans h.straps.2.2⟩,
    k.pActive.trans h.pActive, k.bRem.trans h.bRem, k.spent.trans h.spent, k.cut.trans h.cut, k.ign.trans h.ign,
    k.agent.trans h.agent, k.pending.trans h.pending⟩

theorem Move.still {s t : State} (h : Move s t) : Still s t := by
  cases h with
  | line l x hx =>
    refine ⟨by simp, by simp, by simp, by simp, by simp, by simp, by simp, by simp, ?_, by simp, by simp⟩
    cases l with
    | ign => exact hx rfl
    | svc => rfl
    | gpi => rfl
  | _ => exact ⟨rfl, rfl, rfl, ⟨rfl, rfl, rfl⟩, rfl, rfl, rfl, rfl, rfl, rfl, rfl⟩

theorem Moves.still {s t : State} (h : Moves s t) : Still s t :=
  h.keep (L := Still s) (fun hm hs => hs.trans hm.still) (.refl s)

theorem Still.activeBank {s t : State} (h : Still s t) : t.activeBank = s.activeBank := by
  rw [State.activeBank, h.store]
  rfl

/-- The parameters of the groups depend on nothing that moves. -/
theorem Still.params {s t : State} (h : Still s t) (g : GroupId) : t.params g = s.params g := by
  rw [State.params, h.mode, h.activeBank]
  rfl

/-! ### Ports, hold queue and history -/

theorem moves_port {s : State} {p : PortId} {y : Port} (h : PortMove (s.port p) y) : Moves s (s.setPort p y) := (Move.port s p y h).moves

theorem moves_offer (s : State) (p : PortId) (f : Frame) : Moves s (s.offer p f) := moves_port (portMove_offerPort f _)

theorem moves_count (s : State) (p : PortId) (c : Counter) : Moves s (s.count p c) := moves_port (portMove_countBy c 1 _)

theorem moves_record (s : State) (o : WakeOutcome) (g : GroupId) (r : WakeRequest) : Moves s (s.recordRequest o g r) :=
  (Move.record s _).moves

theorem moves_recordPlain (s : State) (o : WakeOutcome) (g : GroupId) (c : Cause) (src : Option Source) (f : Option FaultCause) :
    Moves s (s.recordPlain o g c src f) := (Move.record s _).moves

/-- R62, R63: an offer to the hold queue. -/
theorem moves_holdFrame {s : State} {p : PortId} (f : Frame) (rule : Option Nat) (h : s.prospects p = true ∨ s.hasHeld p = true) :
    Moves s (s.holdFrame p f rule) := by
  unfold State.holdFrame
  split
  · exact (Move.hold s _ ‹_› h).moves
  · exact moves_count s p _

/-! ### Group transitions -/

theorem groupLaw_off {x : Group} (h : GroupLaw x) : GroupLaw (groupOff x) := by
  obtain ⟨-, -, -, hf⟩ := h
  exact ⟨rfl, by simp [groupOff, GroupState.supplyOn], by simp [groupOff], by simp [groupOff]⟩

theorem spared_of_class {x : Group} (h : lowClass x = false) : Spared x := fun k => absurd k (by simp [h])

theorem spared_groupOff (x : Group) : Spared (groupOff x) := spared_of_class rfl

/-- A channel with a grant class and the timer of its supply-on state meets its law. -/
theorem groupLaw_of_supplyOn {x : Group} (ht : timerFits x.state x.timer = true) (hc : x.grantClass.isSome = true)
    (hs : x.state.supplyOn = true) : GroupLaw x :=
  ⟨ht, iff_of_true hc hs, fun _ => hs, fun hf => by rw [hf] at hs; cases hs⟩

theorem GroupLaw.class_isSome {x : Group} (h : GroupLaw x) (hs : x.state.supplyOn = true) : x.grantClass.isSome = true := h.2.1.mpr hs

theorem supplyOn_ne_off {x : GroupState} (h : x.supplyOn = true) : x ≠ .off := by
  rintro rfl
  cases h

theorem supplyOn_ne_quarantined {x : GroupState} (h : x.supplyOn = true) : x ≠ .quarantined := by
  rintro rfl
  cases h

/-- Switching a channel off is always in order, out of QUARANTINED once no quarantine timer runs. -/
theorem change_groupOff {s : State} {g : GroupId} (h : (s.group g).state = .quarantined → (s.stormOf g).quarantine = none) :
    Change s g (groupOff (s.group g)) :=
  ⟨groupLaw_off, .inl rfl, fun _ _ _ => spared_groupOff _, by simp [groupOff], fun hq _ => h hq⟩

theorem moves_enterOff {s : State} {g : GroupId} (h : (s.group g).state = .quarantined → (s.stormOf g).quarantine = none) :
    Moves s (enterOff g s) := (Move.change s g _ (change_groupOff h)).moves

theorem moves_enterFault {s : State} {g : GroupId} (c : FaultCause) (h : (s.group g).state.supplyOn = true) :
    Moves s (enterFault g c s) := by
  refine Moves.trans (Move.change s g _ ⟨fun _ => ?_, .inr (.inl (supplyOn_ne_off h)), fun _ _ _ => ?_, by simp, fun hq => ?_⟩).moves
    (moves_recordPlain _ _ _ _ _ _)
  · exact ⟨rfl, by simp [groupOff, GroupState.supplyOn], by simp [groupOff], by simp⟩
  · exact spared_of_class rfl
  · exact absurd hq (supplyOn_ne_quarantined h)

theorem timerFits_upTimer (g : GroupId) (s : State) : timerFits .up (upTimer g s) = true := by
  unfold upTimer
  split
  · split <;> rfl
  · split <;> rfl
  · rfl

/-- A supply-on channel changes to another supply-on state and keeps its class; on the way into POWERING, RELEASING or UP under a spent
budget its class was not among those held down. -/
theorem change_supplyOn {s : State} {g : GroupId} {x : Group} (hold : (s.group g).state.supplyOn = true)
    (hnew : x.state.supplyOn = true) (ht : timerFits x.state x.timer = true) (hc : x.grantClass = (s.group g).grantClass)
    (hs : s.budgetSpent → GroupLaw (s.group g) → Spared (s.group g) → Spared x) : Change s g x :=
  ⟨fun h => groupLaw_of_supplyOn ht (hc ▸ h.class_isSome hold) hnew, .inr (.inl (supplyOn_ne_off hold)), hs,
    fun hq => absurd hq (supplyOn_ne_quarantined hnew), fun hq => absurd hq (supplyOn_ne_quarantined hold)⟩

/-- R80: from RELEASING a group enters UP. -/
theorem moves_enterUp {s : State} {g : GroupId} (h : (s.group g).state = .releasing) : Moves s (enterUp g s) := by
  refine (Move.change s g _ ?_).moves
  exact change_supplyOn (by rw [h]; rfl) rfl (timerFits_upTimer g s) rfl fun _ _ hs hl => absurd h (hs hl).2.1

/-- R79: an entry into RELEASING, of a group whose class a spent budget does not hold down. -/
theorem moves_enterReleasing {s : State} {g : GroupId} (h : (s.group g).state.supplyOn = true)
    (hs : s.budgetSpent → GroupLaw (s.group g) → Spared (s.group g) → lowClass (s.group g) = false) : Moves s (enterReleasing g s) := by
  have hm : Moves s (s.changeGroup g
      { s.group g with state := .releasing, timer := .settle (s.params g).settle, watch := watchAtRelease g s }) := by
    refine (Move.change s g _ ?_).moves
    exact change_supplyOn h rfl rfl rfl fun hb hg hl => spared_of_class (hs hb hg hl)
  unfold enterReleasing
  dsimp only
  split
  · exact hm.trans (moves_enterFault .pgLost (by rw [group_changeGroup_self]; rfl))
  · split
    · exact hm.trans (moves_enterUp (by rw [group_changeGroup_self]))
    · exact hm

theorem lowClass_zero {x : Group} (h : x.grantClass = some 0) : lowClass x = false := lowClass_of_zero h

theorem timerFits_poweringTimer (x : GroupParams) : timerFits .powering (poweringTimer x) = true := by
  unfold poweringTimer
  split <;> rfl

/-- R78: from OFF a present group enters POWERING, under a spent budget with class 0 alone. -/
theorem moves_enterPowering {s : State} {g : GroupId} {c : WakeClass} (h : (s.group g).state = .off)
    (hp : (s.params g).present = true) (hc : s.budgetSpent → c = 0) : Moves s (enterPowering g c s) := by
  have hlow : ∀ x : Group, x.grantClass = some c → s.budgetSpent → lowClass x = false := fun x hx hb =>
    lowClass_zero (by rw [hx, hc hb])
  have hm : Moves s (s.changeGroup g
      { s.group g with state := .powering, timer := poweringTimer (s.params g), grantClass := some c, watch := false, faultGuard := 1 }) :=
    (Move.change s g _ ⟨fun _ => groupLaw_of_supplyOn (timerFits_poweringTimer _) rfl rfl, .inr (.inr hp),
      fun hb _ _ => spared_of_class (hlow _ rfl hb), by simp, fun hq => by rw [h] at hq; cases hq⟩).moves
  have hr := hm.trans (moves_enterReleasing (by rw [group_changeGroup_self]; rfl)
    fun hb _ _ => hlow _ (by rw [group_changeGroup_self]) hb)
  unfold enterPowering
  dsimp only
  split
  · split
    · exact hr
    · exact hm
  · exact hm

/-- R81: from a supply-on state a group enters DRAINING, or OFF. -/
theorem moves_enterDraining {s : State} {g : GroupId} (h : (s.group g).state.supplyOn = true) : Moves s (enterDraining g s) := by
  have hm : Moves s (s.changeGroup g { s.group g with state := .draining, timer := .drain (s.params g).drain }) := by
    refine (Move.change s g _ ?_).moves
    exact change_supplyOn h rfl rfl rfl fun _ _ _ _ => by simp
  unfold enterDraining
  dsimp only
  split
  · exact hm.trans (moves_enterOff (by simp))
  · exact hm

theorem moves_forceGroup (s : State) (g : GroupId) : Moves s (forceGroup s g) := by
  unfold forceGroup
  split
  · split
    · exact (moves_enterOff (by simp [*])).trans (moves_recordPlain _ _ _ _ _ _)
    · exact (moves_enterDraining (by simp [*, GroupState.supplyOn])).trans (moves_recordPlain _ _ _ _ _ _)
    · exact (moves_enterDraining (by simp [*, GroupState.supplyOn])).trans (moves_recordPlain _ _ _ _ _ _)
    all_goals exact .refl s
  · exact .refl s

theorem moves_exhaust (s : State) : Moves s s.exhaust := moves_foldl moves_forceGroup allGroups s

/-- A channel keeps its state; its timer still fits, and it holds a class as before, one that a spent budget allows. -/
theorem change_adjust {s : State} {g : GroupId} {x : Group} (hst : x.state = (s.group g).state)
    (ht : timerFits (s.group g).state (s.group g).timer = true → timerFits x.state x.timer = true)
    (hon : (s.group g).state.supplyOn = true) (hc : (s.group g).grantClass.isSome = true → x.grantClass.isSome = true)
    (hs : (s.group g).grantClass.isSome = true → lowClass x = true → lowClass (s.group g) = true) : Change s g x where
  law h := groupLaw_of_supplyOn (ht h.1) (hc (h.class_isSome hon)) (hst ▸ hon)
  present := .inr (.inl (supplyOn_ne_off hon))
  spent _ hg hsp hl := hst ▸ hsp (hs (hg.class_isSome hon) hl)
  enter hq := hst ▸ hq
  leave hq := absurd hq (supplyOn_ne_quarantined hon)

theorem moves_startLinger (g : GroupId) (n : Nat) (s : State) : Moves s (startLinger g n s) := by
  unfold startLinger
  split
  · rename_i hu ht
    refine (Move.adjust s g _ ?_ ?_).moves
    · rfl
    · exact change_adjust rfl (fun _ => by rw [hu]; rfl) (by rw [hu]; rfl) id fun _ => id
  · exact .refl s

/-! ### Wake requests -/

/-- The class that a channel holds after a request is not above the one it held (R90). -/
theorem lowClass_of_lowerClass {x : Group} (c : WakeClass) (h : x.grantClass.isSome = true)
    (hl : lowClass { x with grantClass := lowerClass x.grantClass c } = true) : lowClass x = true := by
  obtain ⟨held, hheld⟩ := Option.isSome_iff_exists.mp h
  simp only [lowClass, hheld, lowerClass, decide_eq_true_eq] at hl ⊢
  rintro rfl
  exact hl (min_eq_left (Fin.zero_le c))

theorem lowerClass_isSome (held : Option WakeClass) (c : WakeClass) : (lowerClass held c).isSome = true := by
  cases held <;> rfl

/-- A request that lowers the class and changes the timer for one that fits. -/
theorem moves_lowerClass {s : State} {g : GroupId} (c : WakeClass) (timer : SeqTimer) (hon : (s.group g).state.supplyOn = true)
    (ht : timerFits (s.group g).state (s.group g).timer = true → timerFits (s.group g).state timer = true) :
    Moves s (s.setGroup g { s.group g with grantClass := lowerClass (s.group g).grantClass c, timer := timer }) := by
  refine (Move.adjust s g _ ?_ ?_).moves
  · rfl
  · exact change_adjust rfl ht hon (fun _ => lowerClass_isSome _ c) (lowClass_of_lowerClass c)

/-- R127: under a spent budget only class 0 is granted. -/
theorem class_zero_of_grants {s : State} {c : WakeClass} {cost : Nat} (hb : s.budgetSpent) (h : s.grants c cost = true) : c = 0 := by
  obtain ⟨hm, h0⟩ := hb
  by_contra hc
  simp only [State.grants, hm, parkedGrant, h0] at h
  split at h <;> simp_all

theorem budgetSpent_of_still {s t : State} (h : Still s t) (hb : t.budgetSpent) : s.budgetSpent :=
  ⟨h.mode ▸ hb.1, h.bRem ▸ hb.2⟩

/-- A group that entered RELEASING stands there, or has passed on to UP or FAULT. -/
theorem state_enterReleasing (g : GroupId) (s : State) :
    ((enterReleasing g s).group g).state = .releasing ∨ ((enterReleasing g s).group g).state = .up ∨
      ((enterReleasing g s).group g).state = .fault := by
  unfold enterReleasing
  dsimp only
  split
  · exact .inr (.inr (by rw [group_enterFault_self]))
  · split
    · exact .inr (.inl (by simp [enterUp]))
    · exact .inl (by rw [group_changeGroup_self])

theorem state_enterPowering_ne_quarantined (g : GroupId) (c : WakeClass) (s : State) :
    ((enterPowering g c s).group g).state ≠ .quarantined := by
  unfold enterPowering
  dsimp only
  split
  · split
    · rcases state_enterReleasing g (s.changeGroup g
        { s.group g with state := .powering, timer := poweringTimer (s.params g), grantClass := some c, watch := false,
                         faultGuard := 1 }) with h | h | h <;> rw [h] <;> decide
    · simp
  · simp

/-- R85, R119, R132: a grant from OFF. -/
theorem moves_grantFromOff {r : WakeRequest} {g : GroupId} {s : State} (h : (s.group g).state = .off)
    (hp : (s.params g).present = true) (hst : stormPasses g s = true) (hc : s.budgetSpent → r.cls = 0) :
    Moves s (grantFromOff r g s) := by
  have hm := moves_enterPowering h hp hc
  have hk := hm.still
  unfold grantFromOff
  dsimp only
  cases hmode : s.mode.mode with
  | parked =>
    have hstorm : (enterPowering g r.cls s).stormOf g = s.stormOf g := by
      rw [State.stormOf, (groupFrame_enterPowering g r.cls s).storm]
      rfl
    have hcount := Move.countStorm (enterPowering g r.cls s) g (s.activeBank.stormWindow * 1000) (hk.mode.trans hmode)
      (by simpa [stormPasses, hmode, hstorm, hk.activeBank] using hst) (state_enterPowering_ne_quarantined g r.cls s)
    exact ((hm.trans hcount.moves).trans (Move.inrush _ _).moves).trans (moves_record _ _ _ _)
  | drive => exact hm.trans (moves_record _ _ _ _)
  | unconfigured => exact hm.trans (moves_record _ _ _ _)

/-- R84: one group takes a wake request. -/
theorem moves_takeWakeGroup (r : WakeRequest) (g : GroupId) (s : State) : Moves s (takeWakeGroup r g s).1 := by
  unfold takeWakeGroup
  dsimp only
  split
  · exact .refl s
  · have hp : (s.params g).present = true := by simp_all
    split
    · exact moves_record _ _ _ _
    · exact moves_record _ _ _ _
    · rename_i hoff
      split
      · have hm : s.mode.mode = .parked := by
          rename_i hst
          simp only [stormPasses] at hst
          split at hst <;> simp_all
        exact (Move.quarantine s g _ hm hp).moves.trans (moves_record _ _ _ _)
      · split
        · exact moves_grantFromOff hoff hp (by simp_all) (fun hb => class_zero_of_grants hb ‹_›)
        · exact moves_record _ _ _ _
    · exact moves_lowerClass r.cls (s.group g).timer (by simp [*, GroupState.supplyOn]) id
    · exact moves_lowerClass r.cls (s.group g).timer (by simp [*, GroupState.supplyOn]) id
    · rename_i hup
      split
      · refine moves_lowerClass r.cls _ (by rw [hup]; rfl) fun ht => ?_
        rw [hup] at ht ⊢
        split
        · rfl
        · exact ht
      · exact .refl s
    · rename_i hdr
      split
      · rename_i hgr
        refine (moves_lowerClass r.cls (s.group g).timer (by rw [hdr]; rfl) id).trans (moves_enterReleasing ?_ fun hb _ _ => ?_)
        · rw [group_setGroup_self]
          exact congrArg GroupState.supplyOn hdr
        · have h0 : r.cls = 0 := class_zero_of_grants (s := s) hb hgr
          rw [group_setGroup_self, h0]
          refine lowClass_zero ?_
          cases (s.group g).grantClass with
          | none => rfl
          | some held => exact lowerClass_some_zero held
      · exact moves_record _ _ _ _

theorem moves_takeWake (r : WakeRequest) (s : State) : Moves s (takeWake r s).1 := by
  rw [takeWake_state]
  exact moves_foldl (fun t g => moves_takeWakeGroup r g t) _ s

theorem moves_quietWake (s : State) (c : Cause) (src : Source) (i : Option Ident) : Moves s (s.quietWake c src i) := by
  unfold State.quietWake
  split
  · exact .refl s
  · exact moves_takeWake _ s

/-! ### Drive-forced and absent groups -/

/-- A channel brought to class 0. -/
theorem moves_classZero {s : State} {g : GroupId} (timer : SeqTimer) (hon : (s.group g).state.supplyOn = true)
    (ht : timerFits (s.group g).state (s.group g).timer = true → timerFits (s.group g).state timer = true) :
    Moves s (s.setGroup g { s.group g with timer := timer, grantClass := some 0 }) := by
  refine (Move.adjust s g _ ?_ ?_).moves
  · rfl
  · exact change_adjust rfl ht hon (fun _ => rfl) (fun _ hl => by rw [lowClass_zero rfl] at hl; cases hl)

theorem moves_driveForceGroup (g : GroupId) (s : State) : Moves s (driveForceGroup g s) := by
  unfold driveForceGroup
  split
  · exact moves_takeWakeGroup _ g s
  · exact moves_takeWakeGroup _ g s
  · rename_i hup
    exact moves_classZero .stopped (by rw [hup]; rfl) (fun _ => by rw [hup]; rfl)
  · exact moves_classZero (s.group g).timer (by simp [*, GroupState.supplyOn]) id
  · exact moves_classZero (s.group g).timer (by simp [*, GroupState.supplyOn]) id
  · exact .refl s
  · exact .refl s

/-- R93: a DRIVE entry takes a group out of FAULT, and out of QUARANTINED once its storm record is clear. -/
theorem moves_driveEntryGroup (s : State) (g : GroupId) (h : (s.stormOf g).quarantine = none) : Moves s (driveEntryGroup s g) := by
  have key : ∀ t : State, Moves s t → Moves s (if (t.params g).driveForced then driveForceGroup g t else t) := by
    intro t ht
    split
    · exact ht.trans (moves_driveForceGroup g t)
    · exact ht
  unfold driveEntryGroup
  dsimp only
  apply key
  split
  · exact moves_enterOff fun _ => h
  · exact moves_enterOff fun _ => h
  all_goals exact .refl s

theorem moves_parkedEntryGroup (s : State) (g : GroupId) : Moves s (parkedEntryGroup s g) := by
  unfold parkedEntryGroup
  split
  · exact moves_startLinger g _ s
  · exact .refl s

/-- R36: the storm record of an absent group is cleared, and the group switched off. -/
theorem moves_clearAbsentGroup (s : State) (g : GroupId) : Moves s (clearAbsentGroup s g) := by
  unfold clearAbsentGroup
  split
  · exact .refl s
  · exact (Move.clearStorm s g).moves.trans (moves_enterOff (s := s.setStorm g StormRecord.atPowerOn) (by simp [StormRecord.atPowerOn]))

theorem moves_changeForced (old : Memory) (s : State) (g : GroupId) : Moves s (changeForced old s g) := by
  unfold changeForced
  split
  · exact moves_driveForceGroup g s
  · exact moves_startLinger g _ s
  · exact .refl s
  · exact .refl s

theorem moves_startFallbackLinger (s : State) (g : GroupId) : Moves s (startFallbackLinger s g) := by
  unfold startFallbackLinger
  split
  · exact moves_startLinger g _ s
  · exact .refl s

theorem moves_clearFaultGroup (set : GroupSet) (s : State) (g : GroupId) : Moves s (clearFaultGroup set s g) := by
  unfold clearFaultGroup
  split
  · exact moves_enterOff fun hq => by simp_all
  · exact .refl s

theorem moves_endQuarantine (c : Cause) (src : Option Source) (g : GroupId) (s : State) : Moves s (endQuarantine c src g s) :=
  ((Move.clearStorm s g).moves.trans
    (moves_enterOff (s := s.setStorm g StormRecord.atPowerOn) (by simp [StormRecord.atPowerOn]))).trans (moves_recordPlain _ _ _ _ _ _)

theorem moves_releaseGroup (set : GroupSet) (s : State) (g : GroupId) : Moves s (releaseGroup set s g) := by
  unfold releaseGroup
  split
  · exact moves_endQuarantine _ _ g s
  · exact .refl s

end Sys2Proof.Machine
end

section
/-! Every command as moves and a few events of its own: the one place where the commands are gone through. -/

namespace Sys2Proof.Machine

/-! ### The events that are no moves -/

/-- What a command does to the rule store or to the agent's state (R28, R30 to R32, R37, R38). -/
inductive TableMove : Instr → State → State → Prop where
  | write (args a) (s : State) : s.agent.state = .idle → TableMove (.writeTable args) s (actWriteTable a s).state
  | abort (args) (s : State) : s.agent.state = .verifying → TableMove (.abort args) s (stopVerification s)
  | verify (args) (s : State) : s.agent.state = .idle → TableMove (.verify args) s (startVerification s)
  | lock (args) (s : State) (set) : s.lines.svc.level = true →
      TableMove (.lock args) s { s with store := { s.store with lockPages := set } }
  | verified (s : State) : s.agent.state = .verifying → TableMove .verificationComplete s (completeVerification s)
  | copied (s : State) : s.agent.state = .copying → TableMove .copyComplete s (completeCopy s)

/-- What a command does in the state in which it takes effect. -/
inductive Effect : Instr → State → State → Prop where
  | moves (c) {s t} : Moves s t → Effect c s t
  | table {c s u v t} : u = s ∨ u = beginRequest s → TableMove c u v → Moves v t → Effect c s t
  | swap (args) {s t : State} : s.agent.state = .idle → s.store.standby = .verified → Moves (takeSwap (beginRequest s)) t →
      Effect (.swap args) s t
  | settlement {s : State} {left} : s.mode.mode = .parked → s.charge.timer = some left →
      Effect .settlement s (settleInterval (s.elapse left))
  | classification (p s) : Effect (.classification p) s (s.takeFrame p)
  | ignEdge (s left) : Effect .ignEdge s (ignEdgeTaken (takeEdge .ign left s))
  | powerOn (pins) (s : State) : Effect (.powerOn pins) s { startUp pins with pending := s.pending }

/-! ### Requests -/

theorem moves_beginRequest (s : State) : Moves s (beginRequest s) := (Move.linger s _ none (.inr rfl)).moves

theorem moves_respond (c : Byte) (a : Answer) : Moves a.state (respond c a) := moves_offer a.state 0 _

theorem moves_refused (c : Byte) (st : Status) (s : State) : Moves s (respond c (refuse st (beginRequest s))) :=
  (moves_beginRequest s).trans (moves_respond c (refuse st (beginRequest s)))

/-- A request is refused, or its action stands between taking it and the response. -/
theorem effect_serve {i : Instr} {c : Byte} {n : Nat} {g : Gate} {ok : List Byte → Bool} {act : List Byte → State → Answer}
    {args : List Byte} {s : State}
    (h : gateOpen s g = true → ∀ a t, Moves (act a (beginRequest s)).state t → Effect i s t) : Effect i s (serve c n g ok act args s) := by
  obtain ⟨u, rfl, ⟨st, hr⟩ | ⟨-, hg, -, hr⟩⟩ := serve_cases c n g ok act args s <;> rw [hr]
  · exact .moves i (moves_refused c st s)
  · exact h hg _ _ (moves_respond c _)

theorem effect_serve_moves {i : Instr} {c : Byte} {n : Nat} {g : Gate} {ok : List Byte → Bool} {act : List Byte → State → Answer}
    (hact : ∀ a u, Moves u (act a u).state) (args : List Byte) (s : State) : Effect i s (serve c n g ok act args s) :=
  effect_serve fun _ a _ ht => .moves i (((moves_beginRequest s).trans (hact a _)).trans ht)

theorem moves_actReadHistory (a : List Byte) (s : State) : Moves s (actReadHistory a s).state := by
  rw [actReadHistory_state]

theorem moves_actReadCounters (a : List Byte) (s : State) : Moves s (actReadCounters a s).state := by
  unfold actReadCounters
  dsimp only [answerOk]
  split
  · exact .refl s
  · exact moves_port (portMove_clearPair _ _)

theorem moves_actSetPointer (a : List Byte) (s : State) : Moves s (actSetPointer a s).state := (Move.point s _ _).moves

theorem moves_actReadTable (a : List Byte) (s : State) : Moves s (actReadTable a s).state := by
  rw [actReadTable_frame]
  exact (Move.point s _ _).moves

theorem moves_actClearFault (a : List Byte) (s : State) : Moves s (actClearFault a s).state :=
  moves_foldl (moves_clearFaultGroup _) allGroups s

theorem moves_actReleaseQuarantine (a : List Byte) (s : State) : Moves s (actReleaseQuarantine a s).state :=
  moves_foldl (moves_releaseGroup _) allGroups s

theorem effect_serveAbort (args x : List Byte) (s : State) : Effect (.abort x) s (serveAbort args s) := by
  refine effect_serve fun _ a t ht => ?_
  unfold actAbort at ht
  dsimp only at ht
  split at ht
  · exact .moves _ ((moves_beginRequest s).trans ht)
  · exact .table (.inr rfl) (.abort x _ ‹_›) ht
  · exact .moves _ ((moves_beginRequest s).trans ht)

theorem effect_serveWriteTable (args x : List Byte) (s : State) : Effect (.writeTable x) s (serveWriteTable args s) := by
  refine effect_serve fun _ a t ht => ?_
  by_cases hi : (beginRequest s).agent.state = .idle
  · exact .table (.inr rfl) (.write x a _ hi) ht
  · rw [actWriteTable, if_pos hi] at ht
    exact .moves _ ((moves_beginRequest s).trans ht)

theorem effect_serveVerify (args x : List Byte) (s : State) : Effect (.verify x) s (serveVerify args s) := by
  refine effect_serve fun _ a t ht => ?_
  unfold actVerify at ht
  split at ht
  · exact .moves _ ((moves_beginRequest s).trans ht)
  · exact .table (.inr rfl) (.verify x _ (by simp_all)) ht

theorem effect_serveSwap (args x : List Byte) (s : State) : Effect (.swap x) s (serveSwap args s) := by
  refine effect_serve fun _ a t ht => ?_
  unfold actSwap at ht
  split at ht
  · exact .moves _ ((moves_beginRequest s).trans ht)
  · rename_i hidle
    split at ht
    · exact .moves _ ((moves_beginRequest s).trans ht)
    · rename_i hver
      exact .swap x (not_not.mp hidle) (not_not.mp hver) ht

theorem effect_serveLock (args x : List Byte) (s : State) : Effect (.lock x) s (serveLock args s) :=
  effect_serve fun hg _ _ ht => .table (.inr rfl) (.lock x _ _ hg) ht

/-- The effect of a request is that of the command that its bytes name. -/
theorem effect_takeRequest (d : List Byte) (s : State) : Effect (decodeRequest d) s (takeRequest d s) := by
  generalize hd : decodeRequest d = i
  unfold takeRequest
  rw [hd]
  cases i with
  | status args => exact effect_serve_moves (fun _ u => .refl u) args s
  | readBudget args => exact effect_serve_moves (fun _ u => .refl u) args s
  | readGroup args => exact effect_serve_moves (fun _ u => .refl u) args s
  | readHistory args => exact effect_serve_moves moves_actReadHistory args s
  | readCounters args => exact effect_serve_moves moves_actReadCounters args s
  | setPointer args => exact effect_serve_moves moves_actSetPointer args s
  | readTable args => exact effect_serve_moves moves_actReadTable args s
  | abort args => exact effect_serveAbort args args s
  | writeTable args => exact effect_serveWriteTable args args s
  | verify args => exact effect_serveVerify args args s
  | swap args => exact effect_serveSwap args args s
  | lock args => exact effect_serveLock args args s
  | wake args => exact effect_serve_moves (fun _ u => moves_takeWake _ u) args s
  | clearFault args => exact effect_serve_moves moves_actClearFault args s
  | releaseQuarantine args => exact effect_serve_moves moves_actReleaseQuarantine args s
  | clearHistory args => exact effect_serve_moves (fun _ u => (Move.forget u).moves) args s
  | unknownCommand data =>
    cases data with
    | nil => exact .moves _ (moves_refused 0 .length s)
    | cons c rest => exact .moves _ (moves_refused c .unknown s)
  | _ => exact .moves _ (.refl s)

/-- A request row takes its request as it would be taken from where it waits. -/
theorem exec_request_before {c : Instr} {d : List Byte} (h : requestBytes c = some d) (r : State) :
    exec c r = .next (takeRequest d (r.before c)) ∧ decodeRequest d = c ∨ exec c r = .next (r.before c) := by
  cases c with
  | unknownCommand data =>
    obtain rfl : data = d := Option.some.inj h
    cases data with
    | nil => exact .inl ⟨rfl, rfl⟩
    | cons c rest =>
      by_cases hc : isCommandCode c = true
      · refine .inr ?_
        show (if isCommandCode c then _ else _) = _
        rw [if_pos hc, State.before, if_pos hc]
      · refine .inl ⟨?_, Laws.decodeRequest_unknown c rest (by simpa using hc)⟩
        show (if isCommandCode c then _ else _) = _
        rw [if_neg hc, State.before, if_neg hc, takeRequest, Laws.decodeRequest_unknown c rest (by simpa using hc)]
  | status | readBudget | readGroup | readHistory | readCounters | setPointer | readTable | abort | writeTable | verify | swap | lock
  | wake | clearFault | releaseQuarantine | clearHistory =>
    cases h
    exact .inl ⟨rfl, rfl⟩
  | _ => cases h

/-! ### Lines, ports and hold queue -/

theorem moves_takeEdge {l : InputLine} (hl : l ≠ .ign) (left : Nat) (s : State) : Moves s (takeEdge l left s) :=
  (Move.elapse s left).moves.trans (Move.line _ l _ fun e => absurd e hl).moves

theorem moves_examineEdge (k : GpiId) (s : State) : Moves s (examineEdge k s) := by
  unfold examineEdge
  split
  · exact moves_quietWake s _ _ _
  all_goals
    dsimp only
    split
    · exact moves_takeWake _ s
    · exact .refl s

/-- A data frame at a port at which nothing waits. -/
theorem moves_receiveData {p : PortId} (f : Frame) (flags : FlagErrors) {s : State} (hw : (s.port p).waiting = none)
    (hr : p = 0 → s.agent.request = none) : Moves s (receiveData p f flags s) := by
  have hx : PortMove (s.port p) (portReceivedGood flags (countBy .rxOk 1 (s.port p))) :=
    (portMove_countBy .rxOk 1 _).trans (portMove_portReceivedGood flags _)
  have hm := moves_port hx
  unfold receiveData
  dsimp only
  split
  · rename_i hd
    have hp : p = 0 := by
      simp only [State.diverts, Bool.and_eq_true, beq_iff_eq] at hd
      exact hd.1
    refine hm.trans (Move.divert _ f.data ?_).moves
    rw [← hp, port_setPort_self]
    exact hw
  · have := Move.receive (s.setPort p (portReceivedGood flags (countBy .rxOk 1 (s.port p)))) p f hr
    rw [port_setPort_self, setPort_setPort] at this
    exact hm.trans this.moves

theorem moves_holdRelease {s : State} {p : PortId} (l : List HoldEntry) (f : Frame) (h : l.Sublist s.hold) :
    Moves s (({ s with hold := l } : State).offer p f) := (Move.unhold s l h).moves.trans (moves_offer _ p f)

/-- A hold entry whose deadline passes leaves the queue and is counted (R67). -/
theorem moves_holdExpired (i n : Nat) (p : PortId) (s : State) :
    Moves s (({ s.elapse n with hold := (s.elapse n).hold.eraseIdx i } : State).count p .holdExpired) :=
  ((Move.elapse s n).moves.trans (Move.unhold _ _ (List.eraseIdx_sublist _ i)).moves).trans (moves_count _ p _)

/-! ### Groups and clocks -/

theorem moves_setPg (s : State) (g : GroupId) (v : Bool) : Moves s (s.setPg g v) := (Move.pg s _).moves

/-- From POWERING a group enters RELEASING: a spent budget holds no POWERING group's class down. -/
theorem moves_releaseFromPowering {s : State} {g : GroupId} (h : (s.group g).state = .powering) : Moves s (enterReleasing g s) :=
  moves_enterReleasing (by rw [h]; rfl) fun _ _ hs => by
    cases hl : lowClass (s.group g)
    · rfl
    · exact absurd h (hs hl).1

theorem moves_execPowerFault {s : State} {g : GroupId} (n : Nat) (h : (s.group g).state.supplyOn = true) :
    Moves s (enterFault g .powerFault (s.elapse n)) :=
  (Move.elapse s n).moves.trans (moves_enterFault _ (by simpa using h))

theorem moves_modeTimeTick (n : Nat) (s : State) :
    Moves s { s.elapse n with mode := { (s.elapse n).mode with modeTime := satAdd Config.wordMax (s.elapse n).mode.modeTime 1,
                                                               secondLeft := 1000 } } :=
  (Move.elapse s n).moves.trans
    (Move.clock _ _ _ _ id (fun h => satAdd_le (limit := Config.wordMax) h)).moves

/-! ### Every command -/

/-- The receptions: what waits has been taken before (R39). -/
theorem effect_reception {c : Instr} {e : BusEnd} {r t : State} {f : State → State}
    (hb : r.before c = if portBusOff (r.port e.port) then r else r.takeWaiting e.port)
    (hf : ∀ s, (s.port e.port).waiting = none → (e.port = 0 → s.agent.request = none) → Moves s (f s))
    (h : (if portBusOff (r.port e.port) then .next r else .next (f (r.takeWaiting e.port)) : Result) = .next t) :
    Effect c (r.before c) t := by
  rw [hb]
  by_cases ho : portBusOff (r.port e.port) = true
  · rw [if_pos ho] at h ⊢
    cases h
    exact .moves c (.refl r)
  · rw [if_neg ho] at h ⊢
    cases h
    exact .moves c (hf _ (takeWaiting_waiting _ _).1 (takeWaiting_waiting _ _).2)

/-- What every command does, in the state in which it takes effect. -/
theorem exec_effect {c : Instr} {r t : State} (h : exec c r = .next t) : Effect c (r.before c) t := by
  cases hc : requestBytes c with
  | some d =>
    rcases exec_request_before hc r with ⟨he, hd⟩ | he <;> cases he.symm.trans h
    · exact hd ▸ effect_takeRequest d _
    · exact .moves c (.refl _)
  | none =>
    have stay : ∀ c : Instr, Effect c r r := fun c => .moves c (.refl r)
    have aged := fun n => (Move.elapse r n).moves
    cases c with
    | powerOn pins => cases h; exact .powerOn pins r
    | pinChange l v =>
      cases h
      refine .moves _ (Move.line r l _ fun e => ?_).moves
      subst e
      simp only [linePinChange]
      split <;> rfl
    | gpiEdge k =>
      simp only [exec, execGpiEdge] at h
      split at h <;> cases h
      · exact .moves _ ((moves_takeEdge (by simp) _ r).trans (moves_examineEdge k _))
      · exact stay _
    | ignEdge =>
      simp only [exec, execIgnEdge] at h
      split at h <;> cases h
      · exact .ignEdge r _
      · exact stay _
    | svcEdge =>
      simp only [exec, execSvcEdge] at h
      split at h <;> cases h
      · exact .moves _ (moves_takeEdge (by simp) _ r)
      · exact stay _
    | dataFrameReceived e ident dlc data => exact effect_reception rfl (fun s => moves_receiveData _ _) h
    | receptionError e =>
      simp only [exec, execReceptionError] at h
      split at h <;> cases h
      · exact stay _
      · exact .moves _ (moves_port ((portMove_countBy .rxErr 1 _).trans (portMove_portReceivedBad e.flags _)))
    | remoteRequestFrame e ident =>
      exact effect_reception rfl
        (fun s _ _ => moves_port ((portMove_countBy .rxRemote 1 _).trans (portMove_portReceivedGood e.flags _))) h
    | classification p => cases h; exact .classification p r
    | txAttemptStart p =>
      simp only [exec, execTxAttemptStart] at h
      split at h <;> cases h
      · exact .moves _ (moves_port (portMove_start ‹_›))
      · exact stay _
    | attemptAcknowledged e =>
      have hm := moves_port ((portMove_attemptDelivered (r.port e.port)).trans (portMove_txErrors (txErrorsAfterGood e.flags (r.port e.port)) _))
      simp only [exec, execAttemptAcknowledged] at h
      split at h <;> cases h
      · exact stay _
      · exact .moves _ hm
      · exact .moves _ hm
    | attemptNotAcknowledged e =>
      have hm := moves_port ((portMove_attemptFailed (r.port e.port)).trans
        (portMove_txErrors (txErrorsAfterSilence e.dominant e.flags (r.port e.port)) _))
      simp only [exec, execAttemptNotAcknowledged] at h
      split at h <;> cases h
      · exact stay _
      · exact .moves _ hm
      · exact .moves _ hm
    | attemptError e =>
      have hp : ∀ b : Bool, PortMove (r.port e.port) (if b then attemptFailed (r.port e.port) else attemptDropped (r.port e.port)) :=
        fun b => by cases b; exacts [portMove_attemptDropped _, portMove_attemptFailed _]
      have hm := fun b => moves_port ((hp b).trans (portMove_txErrors (txErrorsAfterError e.place e.flags (r.port e.port)) _))
      simp only [exec, execAttemptError] at h
      split at h <;> cases h
      · exact stay _
      · exact .moves _ (hm _)
      · exact .moves _ (hm _)
    | arbitrationLost p =>
      have hm := moves_port (portMove_attemptDropped (r.port p))
      simp only [exec, execArbitrationLost] at h
      split at h <;> cases h
      · exact stay _
      · exact .moves _ hm
      · exact .moves _ hm
    | busOffRecovery p =>
      simp only [exec, execBusOffRecovery] at h
      split at h <;> cases h
      · exact .moves _ (moves_port (portMove_of_same rfl rfl rfl rfl rfl (.inl rfl)))
      · exact stay _
    | holdRelease p =>
      simp only [exec, execHoldRelease] at h
      split at h <;> cases h
      · exact .moves _ (moves_holdRelease _ _ List.eraseP_sublist)
      · exact stay _
    | holdExpiry i =>
      simp only [exec, execHoldExpiry] at h
      split at h <;> cases h
      · exact .moves _ (moves_holdExpired _ _ _ r)
      · exact stay _
    | mgmtLingerExpiry =>
      simp only [exec, execMgmtLingerExpiry] at h
      split at h <;> cases h
      · exact .moves _ ((aged _).trans (Move.linger _ none _ (.inl rfl)).moves)
      · exact stay _
    | powerGoodAsserted g =>
      simp only [exec, execPowerGoodAsserted] at h
      split at h <;> cases h
      · exact .moves _ ((moves_setPg r g true).trans (moves_releaseFromPowering (by simpa)))
      · exact .moves _ (moves_setPg r g true)
    | powerGoodDelayExpiry g =>
      simp only [exec, execPowerGoodDelayExpiry] at h
      split at h <;> cases h
      · exact .moves _ ((aged _).trans (moves_releaseFromPowering (by simpa)))
      · exact stay _
    | powerGoodTimeout g =>
      simp only [exec, execPowerGoodTimeout] at h
      split at h <;> cases h
      · exact .moves _ ((aged _).trans (moves_enterFault _ (by simp [*, GroupState.supplyOn])))
      · exact stay _
    | powerGoodLost g =>
      simp only [exec, execPowerGoodLost] at h
      split at h <;> cases h
      · rename_i hw
        have hon : ∀ x : GroupState, x.wakeOn = true → x.supplyOn = true := fun x => by cases x <;> simp [GroupState.wakeOn, GroupState.supplyOn]
        exact .moves _ ((moves_setPg r g false).trans (moves_enterFault _ (hon _ (by simp_all))))
      · exact .moves _ (moves_setPg r g false)
    | powerFault g =>
      simp only [exec, execPowerFault] at h
      split at h <;> cases h
      · exact .moves _ (moves_execPowerFault _ ‹_›)
      · exact stay _
    | settleExpiry g =>
      simp only [exec, execSettleExpiry] at h
      split at h <;> cases h
      · exact .moves _ ((aged _).trans (moves_enterUp (by simpa)))
      · exact stay _
    | lingerExpiry g =>
      simp only [exec, execLingerExpiry] at h
      split at h <;> cases h
      · exact .moves _ ((aged _).trans (moves_enterDraining (by simp [*, GroupState.supplyOn])))
      · exact stay _
    | drainExpiry g =>
      simp only [exec, execDrainExpiry] at h
      split at h <;> cases h
      · exact .moves _ ((aged _).trans (moves_enterOff (by simp [*])))
      · exact stay _
    | settlement =>
      simp only [exec, execSettlement] at h
      split at h <;> cases h
      · exact .settlement ‹_› ‹_›
      · exact stay _
    | windowExpiry g =>
      simp only [exec, execWindowExpiry] at h
      split at h <;> cases h
      · exact .moves _ ((aged _).trans (Move.closeWindow _ g).moves)
      · exact stay _
    | quarantineExpiry g =>
      simp only [exec, execQuarantineExpiry] at h
      split at h <;> cases h
      · exact .moves _ ((aged _).trans (moves_endQuarantine _ _ g _))
      · exact stay _
    | parkSettleExpiry =>
      simp only [exec, execParkSettleExpiry] at h
      split at h <;> cases h
      · exact .moves _ ((aged _).trans (Move.clock _ _ _ _ (by simp) id).moves)
      · exact stay _
    | modeTimeTick => cases h; exact .moves _ (moves_modeTimeTick _ r)
    | verificationComplete =>
      simp only [exec, execVerificationComplete] at h
      split at h <;> cases h
      · exact .table (.inl rfl) (.verified r ‹_›) (.refl _)
      · exact stay _
      · exact stay _
    | copyComplete =>
      simp only [exec, execCopyComplete] at h
      split at h <;> cases h
      · exact .table (.inl rfl) (.copied r ‹_›) (.refl _)
      · exact stay _
      · exact stay _
    | _ => cases hc

end Sys2Proof.Machine
end

section
/-! Laws: what is kept by every kind of move and by the few other events is kept by every step. -/

namespace Sys2Proof.Machine

/-! ### Classification -/

theorem moves_forwardTo (f : Frame) (hold : Bool) (rule : Option Nat) (s : State) (p : PortId) : Moves s (forwardTo f hold rule s p) := by
  unfold forwardTo
  split
  · exact moves_offer s p f
  · split
    · exact moves_holdFrame f rule (.inr ‹_›)
    · split
      · rename_i hc
        refine moves_holdFrame f rule (.inl ?_)
        simp only [State.groupComing, State.prospects, Bool.and_eq_true, List.any_eq_true] at hc ⊢
        obtain ⟨-, g, hg, hup, hb⟩ := hc
        refine ⟨g, hg, ?_, hb⟩
        cases hst : (s.group g).state <;> simp_all [GroupState.comingUp, GroupState.supplyOn]
      · exact moves_count s p _

theorem moves_routeTo (f : Frame) (s : State) (p : PortId) : Moves s (routeTo f s p) := by
  unfold routeTo
  split
  · split
    · exact moves_holdFrame f none (.inr ‹_›)
    · exact moves_offer s p f
  · exact moves_count s p _

theorem moves_fallbackTo (f : Frame) (s : State) (p : PortId) : Moves s (fallbackTo f s p) := by
  unfold fallbackTo
  split
  · exact moves_offer s p f
  · exact .refl s

/-- What every move and every battery report keeps, a classification keeps. -/
theorem classifyFrame_keep {L : State → Prop} (hm : ∀ {s t}, Moves s t → L s → L t) (hr : ∀ s v, L s → L (s.takeReport v))
    (src : PortId) (f : Frame) {s : State} (hs : L s) : L (classifyFrame src f s) := by
  have hreports : ∀ l : List Nat, L (l.foldl (fun t o => t.takeReport (reportValue f.data o)) s) := fun l =>
    List.foldlRecOn l _ hs fun t ht o _ => hr t _ ht
  unfold classifyFrame
  split
  · exact hm ((moves_quietWake s _ _ _).trans (moves_foldl (moves_fallbackTo f) _ _)) hs
  all_goals
    dsimp only
    split
    · exact hm (moves_count s src _) hs
    · split
      · exact hm (moves_foldl (moves_routeTo f) _ s) hs
      · exact hm ((moves_takeWake _ _).trans (moves_foldl (moves_forwardTo f _ _) _ _)) (hreports _)

/-! ### Laws -/

/-- `L` is kept by every kind of move and by every other event. -/
structure Law (L : State → Prop) : Prop where
  move : ∀ {s t}, Move s t → L s → L t
  table : ∀ {c s t}, TableMove c s t → L s → L t
  swap : ∀ {s : State}, s.agent.state = .idle → s.store.standby = .verified → L s → L (takeSwap s)
  settle : ∀ {s : State}, s.mode.mode = .parked → s.charge.timer.isSome = true → L s → L (settleInterval s)
  report : ∀ {s : State} (v), L s → L (s.takeReport v)
  edge : ∀ {s : State}, L s → L (ignEdgeTaken (s.setLine .ign (lineEdge s.lines.ign)))
  powerOn : ∀ {s : State} (pins), L s → L { startUp pins with pending := s.pending }

section
variable {L : State → Prop} (hL : Law L)
include hL

theorem Law.moves {s t : State} (h : Moves s t) (hs : L s) : L t := h.keep hL.move hs

theorem Law.takeFrame (p : PortId) {s : State} (hs : L s) : L (s.takeFrame p) := by
  unfold State.takeFrame
  split
  · exact classifyFrame_keep hL.moves (fun _ => hL.report) p _
      (hL.moves (moves_port (portMove_of_same rfl rfl rfl rfl rfl (.inr rfl))) hs)
  · exact hs

theorem Law.effect {c : Instr} {s t : State} (h : Effect c s t) (hs : L s) : L t := by
  cases h with
  | moves _ h => exact hL.moves h hs
  | table hu ht hv =>
    refine hL.moves hv (hL.table ht ?_)
    rcases hu with rfl | rfl
    · exact hs
    · exact hL.moves (moves_beginRequest s) hs
  | swap args hi hv ht => exact hL.moves ht (hL.swap (s := beginRequest s) hi hv (hL.moves (moves_beginRequest s) hs))
  | settlement hm ht =>
    exact hL.settle (s := s.elapse _) hm (by simp [State.elapse, passTimer, ht]) (hL.move (.elapse s _) hs)
  | classification p => exact hL.takeFrame p hs
  | ignEdge _ left => exact hL.edge (s := s.elapse left) (hL.move (.elapse s left) hs)
  | powerOn pins => exact hL.powerOn pins hs

theorem Law.takeWaiting (p : PortId) {s : State} (hs : L s) : L (s.takeWaiting p) := by
  have hf := hL.takeFrame p hs
  unfold State.takeWaiting State.takeRequestWaiting
  split
  · split
    · exact hL.effect (effect_takeRequest _ _) hf
    · exact hf
  · exact hf

theorem Law.requestArrives (d : List Byte) {s : State} (hs : L s) : L (s.requestArrives d) := by
  unfold State.requestArrives
  split
  · exact hs
  · exact hL.takeWaiting 0 hs

theorem Law.before (c : Instr) {s : State} (hs : L s) : L (s.before c) := by
  unfold State.before
  split
  · split
    · exact hs
    · exact hL.takeWaiting _ hs
  · split
    · exact hs
    · exact hL.takeWaiting _ hs
  · split
    · exact hs
    · exact hL.requestArrives _ hs
  · split
    · exact hL.requestArrives _ hs
    · exact hs

theorem Law.exec {c : Instr} {s t : State} (h : exec c s = .next t) (hs : L s) : L t := hL.effect (exec_effect h) (hL.before c hs)

/-- A law that does not read the queue of commands is kept by every step. -/
theorem Law.step (hq : ∀ (s : State) (q : List Instr), L s → L { s with pending := q }) {s t : State} (hs : L s)
    (h : step s = .next t) : L t := by
  unfold Machine.step idleStep at h
  split at h
  · exact hL.exec h (hq s _ hs)
  · split at h
    · exact hL.exec h hs
    · cases h
      exact hL.move (.elapse s 1) hs

end

/-! ### Mode entries and the swap, up to the groups -/

/-- A DRIVE entry before it comes to the groups (R104). -/
def driveStart (s : State) : State :=
  let t : State := ({ s with mode := { s.mode with mode := .drive, modeTime := 0, secondLeft := 1000, parkSettle := none } } : State).sync
  let t := match s.mode.mode with
    | .parked => finalSettlement t
    | .drive | .unconfigured => t
  { t with storm := tabGroups (fun _ => StormRecord.atPowerOn) }

/-- A PARKED entry before it comes to exhaustion and the groups (R105). -/
def parkedStart (s : State) : State :=
  let t : State :=
    ({ s with mode := { s.mode with mode := .parked, modeTime := 0, secondLeft := 1000,
                                    parkSettle := some (s.activeBank.parkSettle * 1000) } } : State).sync
  let t : State := { t with charge := parkAccount t.activeBank t.charge }
  { t with storm := tabGroups (fun g => { t.stormOf g with count := 0, window := none }) }

/-- A PARKED entry after exhaustion, before the groups' lingers (R116). -/
def parkedSpent (s : State) : State := if s.activeBank.parkBudget = 0 then (parkedStart s).exhaust else parkedStart s

theorem driveEntry_eq (s : State) : driveEntry s = allGroups.foldl driveEntryGroup (driveStart s) := rfl

theorem parkAccount_fields (m : Memory) (a : ChargeAccount) :
    (parkAccount m a).pActive = m.parkBudget ∧ (parkAccount m a).bRem = m.parkBudget ∧ (parkAccount m a).loaded = true ∧
    (parkAccount m a).timer = some 1000 := by
  unfold parkAccount
  rw [relevel_frame]
  exact ⟨rfl, rfl, rfl, rfl⟩

theorem parkedEntry_eq (s : State) : parkedEntry s = allGroups.foldl parkedEntryGroup (parkedSpent s) := by
  have hp : (parkedStart s).charge.pActive = s.activeBank.parkBudget := (parkAccount_fields s.activeBank s.charge).1
  rw [parkedSpent, ← hp]
  rfl

/-- A DRIVE entry up to the groups, item by item. -/
theorem driveStart_fields (s : State) :
    let v : State := { s with mode := { s.mode with mode := .drive, modeTime := 0, secondLeft := 1000, parkSettle := none } }
    driveStart s = { v.sync with charge := (driveStart s).charge, storm := tabGroups (fun _ => StormRecord.atPowerOn) } ∧
    (driveStart s).charge = (if s.mode.mode = .parked then (finalSettlement s).charge else s.charge) := by
  unfold driveStart
  cases hm : s.mode.mode with
  | parked =>
    dsimp only
    refine ⟨by rw [finalSettlement_frame], ?_⟩
    unfold finalSettlement
    simp only [charge_sync, activeBank_sync]
    rw [if_pos trivial]
    cases ht : s.charge.timer <;> rfl
  | drive => exact ⟨rfl, rfl⟩
  | unconfigured => exact ⟨rfl, rfl⟩

theorem moves_driveGroups (s : State) : Moves (driveStart s) (driveEntry s) := by
  have hs : ∀ g, ((driveStart s).stormOf g).quarantine = none := fun g => by
    rw [(driveStart_fields s).1]
    simp [State.stormOf, StormRecord.atPowerOn]
  have hm : (driveStart s).mode.mode ≠ .parked := by
    rw [(driveStart_fields s).1]
    simp
  rw [driveEntry_eq]
  refine moves_foldl_of (K := fun t => t.mode.mode ≠ .parked ∧ ∀ g, (t.stormOf g).quarantine = none)
    (fun t g ht => moves_driveEntryGroup t g (ht.2 g)) (fun t g ht => ?_) _ _ ⟨hm, hs⟩
  have hf := groupFrame_driveEntryGroup t g ht.1
  exact ⟨by rw [hf.mode]; exact ht.1, fun h => by rw [State.stormOf, hf.storm]; exact ht.2 h⟩

theorem moves_parkedGroups (s : State) : Moves (parkedStart s) (parkedSpent s) ∧ Moves (parkedSpent s) (parkedEntry s) := by
  refine ⟨?_, by rw [parkedEntry_eq]; exact moves_foldl moves_parkedEntryGroup _ _⟩
  unfold parkedSpent
  split
  · exact moves_exhaust _
  · exact .refl _

/-- The first swap after its exchange of banks, up to the mode entry (R99). -/
def firstSwapStart (s : State) : State :=
  allGroups.foldl startFallbackLinger (allGroups.foldl clearAbsentGroup { s with mode := { s.mode with configured := true } })

theorem firstSwap_eq (s : State) :
    firstSwap s = if (firstSwapStart s).lines.ign.level then driveEntry (firstSwapStart s) else parkedEntry (firstSwapStart s) := by
  rw [firstSwap, firstSwapStart]

theorem moves_firstSwapStart (s : State) : Moves { s with mode := { s.mode with configured := true } } (firstSwapStart s) :=
  (moves_foldl moves_clearAbsentGroup _ _).trans (moves_foldl moves_startFallbackLinger _ _)

theorem moves_laterSwap (old : Memory) (s : State) : Moves s.sync (laterSwap old s) := by
  unfold laterSwap
  dsimp only
  split
  · exact (moves_foldl moves_clearAbsentGroup _ _).trans (moves_foldl (moves_changeForced old) _ _)
  · exact moves_foldl moves_clearAbsentGroup _ _
  · exact moves_foldl moves_clearAbsentGroup _ _

/-- A wake request for all groups that power-on makes. -/
theorem moves_startUp (pins : PowerOnPins) : Moves (State.atPowerOn pins) (startUp pins) := by
  unfold startUp
  split
  · exact moves_takeWake _ _
  · exact .refl _

/-! ### Laws of groups, ports and history alone -/

/-- A law that every move keeps, and that reads neither rule store, mode, account, storm records nor the agent's state. -/
structure LocalLaw (L : State → Prop) : Prop where
  move : ∀ {s t}, Move s t → L s → L t
  sync : ∀ {s : State}, L s → L s.sync
  local_ : ∀ {s t : State}, t.ports = s.ports → t.hold = s.hold → t.groups = s.groups → t.history = s.history → L s → L t
  powerOn : ∀ pins, L (State.atPowerOn pins)

/-- The rule store and the agent's state belong to other blocks. -/
theorem tableMove_local {c : Instr} {s t : State} (h : TableMove c s t) :
    t.ports = s.ports ∧ t.hold = s.hold ∧ t.groups = s.groups ∧ t.history = s.history := by
  cases h with
  | write args a =>
    rw [actWriteTable_frame]
    exact ⟨rfl, rfl, rfl, rfl⟩
  | _ => exact ⟨rfl, rfl, rfl, rfl⟩

section
variable {L : State → Prop} (hL : LocalLaw L)
include hL

theorem LocalLaw.moves {s t : State} (h : Moves s t) (hs : L s) : L t := h.keep hL.move hs

theorem LocalLaw.announce {s : State} (a : ChargeAccount) (hs : L s) : L (s.announce a) := by
  have ha : L { s with charge := a } := hL.local_ (s := s) rfl rfl rfl rfl hs
  unfold State.announce
  dsimp only
  split
  · exact hL.moves (moves_exhaust _) ha
  · exact ha

theorem LocalLaw.driveEntry {s : State} (hs : L s) : L (driveEntry s) := by
  refine hL.moves (moves_driveGroups s) ?_
  rw [(driveStart_fields s).1]
  exact hL.local_ (s := State.sync _) rfl rfl rfl rfl (hL.sync (hL.local_ (s := s) rfl rfl rfl rfl hs))

theorem LocalLaw.parkedEntry {s : State} (hs : L s) : L (parkedEntry s) := by
  refine hL.moves ((moves_parkedGroups s).1.trans (moves_parkedGroups s).2) ?_
  exact hL.local_ (s := State.sync _) rfl rfl rfl rfl (hL.sync (hL.local_ (s := s) rfl rfl rfl rfl hs))

theorem LocalLaw.takeSwap {s : State} (hs : L s) : L (takeSwap s) := by
  have he : L (exchangeBanks s) := hL.local_ (s := s) rfl rfl rfl rfl hs
  unfold Machine.takeSwap
  dsimp only
  split
  · exact hL.moves (moves_laterSwap _ _) (hL.sync he)
  · have hf : L (firstSwapStart (exchangeBanks s)) :=
      hL.moves (moves_firstSwapStart _) (hL.local_ (s := exchangeBanks s) rfl rfl rfl rfl he)
    rw [firstSwap_eq]
    split
    · exact hL.driveEntry hf
    · exact hL.parkedEntry hf

theorem LocalLaw.ignEdgeTaken {s : State} (hs : L s) : L (ignEdgeTaken s) := by
  unfold Machine.ignEdgeTaken
  split
  · exact hL.moves (moves_quietWake s _ _ _) hs
  · exact hL.parkedEntry hs
  · exact hL.driveEntry hs
  · exact hs
  · exact hs

theorem LocalLaw.law : Law L where
  move := hL.move
  table h hs := by
    obtain ⟨h1, h2, h3, h4⟩ := tableMove_local h
    exact hL.local_ h1 h2 h3 h4 hs
  swap _ _ := hL.takeSwap
  settle _ _ := hL.announce _
  report v hs := by
    rcases takeReport_cases _ v with h | ⟨n, -, -, h⟩ <;> rw [h]
    · exact hs
    · exact hL.announce _ hs
  edge hs := by
    refine hL.ignEdgeTaken (hL.local_ ?_ ?_ ?_ ?_ hs) <;> rfl
  powerOn pins _ := hL.local_ (s := startUp pins) rfl rfl rfl rfl (hL.moves (moves_startUp pins) (hL.powerOn pins))

end

end Sys2Proof.Machine
end

section
/-! The laws of ports, counters, history, groups and hold queue (R5 to R10, R17, R39, R61, R69, R75, R90, R140). -/

namespace Sys2Proof.Machine

/-! ### Counters and history -/

/-- The law of every port that speaks of the port alone, for some law of a port that moves and changes of awakeness keep. -/
theorem localLaw_ports {P : Port → Prop} (hmove : ∀ {x y}, PortMove x y → P x → P y) (hwait : ∀ {x : Port} (f), P x → P { x with waiting := some f })
    (hcount : ∀ {x} (n), P x → P (countBy .holdDiscarded n x)) (hsync : ∀ {x} (b), P x → P (syncPort b x)) (h0 : P Port.atPowerOn) :
    LocalLaw (fun s => ∀ p, P (s.port p)) := by
  have set : ∀ {s : State} (p : PortId) (y : Port), P y → (∀ q, P (s.port q)) → ∀ q, P ((s.setPort p y).port q) := by
    intro s p y hy hs q
    by_cases e : q = p
    · subst e
      rwa [port_setPort_self]
    · rw [port_setPort_ne s y e]
      exact hs q
  have sync : ∀ {s : State}, (∀ q, P (s.port q)) → ∀ q, P (s.sync.port q) := by
    intro s hs q
    rw [port_sync]
    split
    · exact hsync _ (hs q)
    · exact hcount _ (hsync _ (hs q))
  refine ⟨fun {s t} hm hs => ?_, fun hs => sync hs, fun hp _ _ _ hs p => ?_, fun pins p => ?_⟩
  · cases hm with
    | port p y h => exact set p y (hmove h (hs p)) hs
    | receive p f => exact set p _ (hwait f (hs p)) hs
    | change g x _ => exact sync (s := s.setGroup g x) hs
    | quarantine g w => exact sync (s := (s.setStorm g _).setGroup g _) hs
    | linger l r => exact sync (s := { s with agent := _ }) hs
    | line l x _ => simpa [State.port] using hs
    | _ => exact hs
  · simpa [State.port, hp] using hs p
  · simpa [State.port, State.atPowerOn] using h0

/-- R17: the range of the counters. -/
theorem localLaw_counters : LocalLaw CountersLaw :=
  localLaw_ports (P := PortBounded) (fun h => h.bounded) (fun _ h => h.of_counters rfl) (fun n h => h.countBy _ n)
    (fun b h => h.syncPort b) (fun c => by cases c <;> decide)

theorem localLaw_sound : LocalLaw (fun s => ∀ p, PortSound (s.port p)) :=
  localLaw_ports (fun h => h.sound) (fun {x} _ h => .of_same (x := x) rfl rfl rfl rfl h)
    (fun {x} _ h => .of_same (x := x) rfl rfl rfl rfl h)
    (fun b h => h.syncPort b) ⟨fun _ => rfl, by decide, by decide, fun _ => rfl, by decide⟩

/-- R140: a record written keeps the bounds of the history. -/
theorem push_bounds {h : WakeHistory} (w : WakeRecord)
    (hh : h.records.length ≤ 32 ∧ h.overwrites ≤ 65535 ∧ (h.overwrites ≠ 0 → h.records.length = 32)) :
    (h.push w).records.length ≤ 32 ∧ (h.push w).overwrites ≤ 65535 ∧ ((h.push w).overwrites ≠ 0 → (h.push w).records.length = 32) := by
  obtain ⟨hl, ho, hf⟩ := hh
  unfold WakeHistory.push
  split
  · rename_i hlt
    simp only [Config.historyMax] at hlt
    exact ⟨by simp; omega, ho, fun hne => absurd (hf hne) (by omega)⟩
  · rename_i hge
    simp only [Config.historyMax] at hge
    have hlen : (w :: h.records.take (Config.historyMax - 1)).length = 32 := by simp [Config.historyMax]; omega
    exact ⟨hlen.le, satAdd_le ho, fun _ => hlen⟩

theorem history_empty {s : State} : HistoryLaw { s with history := { records := [], overwrites := 0 } } :=
  ⟨Nat.zero_le 32, Nat.zero_le 65535, fun h => absurd rfl h⟩

theorem localLaw_history : LocalLaw HistoryLaw := by
  refine ⟨fun hm hs => ?_, fun hs => hs, fun _ _ _ hh hs => ?_, fun pins => history_empty (s := State.atPowerOn pins)⟩
  · cases hm with
    | record w => exact push_bounds w hs
    | forget => exact history_empty
    | line l x _ => simpa [HistoryLaw] using hs
    | _ => exact hs
  · simpa [HistoryLaw, hh] using hs

/-- Settles O8: both laws read only ports or history, and every move keeps them. -/
theorem stepKeepsCountersAndHistoryLaw : Obligations.StepKeepsCountersAndHistoryLaw := fun _ _ h =>
  ⟨fun hs => localLaw_counters.law.step (fun _ _ => id) hs h, fun hs => localLaw_history.law.step (fun _ _ => id) hs h⟩

/-! ### Groups -/

theorem groupLaw_groupPass {x : Group} (n : Nat) (h : GroupLaw x) : GroupLaw (groupPass n x) := by
  obtain ⟨ht, hc, hw, hf⟩ := h
  refine ⟨?_, hc, hw, hf⟩
  cases hx : x.timer <;> cases hs : x.state <;> simp_all [groupPass, SeqTimer.pass, timerFits]

theorem groupLaw_atPowerOn : GroupLaw Group.atPowerOn :=
  ⟨rfl, by simp [Group.atPowerOn, GroupState.supplyOn], by simp [Group.atPowerOn], by simp [Group.atPowerOn]⟩

/-- A law of all groups under the replacement of one. -/
theorem forall_group_set {P : GroupId → Group → Prop} {s t : State} (g : GroupId) {x : Group} (hg : t.group g = x)
    (hne : ∀ h, h ≠ g → t.group h = s.group h) (hx : P g x) (hs : ∀ h, P h (s.group h)) : ∀ h, P h (t.group h) := by
  intro h
  by_cases e : h = g
  · subst e
    rwa [hg]
  · rw [hne h e]
    exact hs h

theorem localLaw_groups : LocalLaw GroupsLaw := by
  refine ⟨fun hm hs => ?_, fun hs => hs, fun _ _ hg _ hs => ?_, fun _ g => ?_⟩
  · cases hm with
    | change g x h =>
      exact forall_group_set (P := fun _ => GroupLaw) g (group_changeGroup_self _ g x) (fun _ e => group_changeGroup_ne _ x e)
        (h.law (hs g)) hs
    | adjust g x _ h =>
      exact forall_group_set (P := fun _ => GroupLaw) g (group_setGroup_self _ g x) (fun _ e => group_setGroup_ne _ x e)
        (h.law (hs g)) hs
    | quarantine g w _ _ =>
      refine forall_group_set (P := fun _ => GroupLaw) g (group_changeGroup_self _ g _) (fun _ e => group_changeGroup_ne _ _ e) ?_ hs
      exact ⟨rfl, by simp [groupOff, GroupState.supplyOn], by simp [groupOff], by simp⟩
    | elapse n =>
      intro g
      rw [group_elapse]
      exact groupLaw_groupPass n (hs g)
    | line l x _ => simpa [GroupsLaw, State.group] using hs
    | _ => exact hs
  · simpa [GroupsLaw, State.group, hg] using hs
  · simpa [State.group, State.atPowerOn] using groupLaw_atPowerOn

/-- Settles O11: every transition of a channel keeps its law. -/
theorem stepKeepsGroupsLaw : Obligations.StepKeepsGroupsLaw := fun _ _ hs h => localLaw_groups.law.step (fun _ _ => id) hs h

/-! ### Ports and their awakeness -/

/-- Two states in which the same ports are awake and have prospects. -/
structure SameView (s t : State) : Prop where
  awake : ∀ p, t.awake p = s.awake p
  prospects : ∀ p, t.prospects p = s.prospects p

theorem SameView.of_groups {s t : State} (hg : ∀ g, (t.group g).state = (s.group g).state) (hp : ∀ g, t.boundPort g = s.boundPort g)
    (hm : t.mode.mode = s.mode.mode) (hl : t.agent.linger.isSome = s.agent.linger.isSome) : SameView s t := by
  refine ⟨fun p => ?_, fun p => ?_⟩
  · simp only [State.awake, State.groupWakes, hg, hp, hm, hl]
  · simp only [State.prospects, hg, hp]

/-- Every port is ACTIVE exactly while it is awake (R5). -/
def Synced (s : State) : Prop := ∀ p, (s.port p).state = .active ↔ s.awake p = true

/-- Every hold entry is for a port with prospects (R69). -/
def HeldForProspects (s : State) : Prop := ∀ e ∈ s.hold, s.prospects e.dest = true

theorem synced_sync (s : State) : Synced s.sync := port_sync_state s

theorem heldForProspects_sync (s : State) : HeldForProspects s.sync := fun _ he => (List.mem_filter.mp he).2

theorem Synced.of_view {s t : State} (hs : Synced s) (hp : ∀ p, (t.port p).state = (s.port p).state) (hv : SameView s t) : Synced t :=
  fun p => by rw [hp, hv.awake]; exact hs p

theorem HeldForProspects.of_view {s t : State} (hs : HeldForProspects s) (hh : t.hold.Sublist s.hold) (hv : SameView s t) :
    HeldForProspects t := fun e he => by rw [hv.prospects]; exact hs e (hh.subset he)

/-- A move makes the ports' awakeness known, or leaves awakeness, prospects and port states as they are. -/
theorem Move.view {s t : State} (h : Move s t) :
    (∃ u : State, t = u.sync) ∨ (SameView s t ∧ ∀ p, (t.port p).state = (s.port p).state) := by
  have set : ∀ (p : PortId) (y : Port), y.state = (s.port p).state →
      SameView s (s.setPort p y) ∧ ∀ q, ((s.setPort p y).port q).state = (s.port q).state := by
    intro p y hy
    refine ⟨⟨fun _ => rfl, fun _ => rfl⟩, fun q => ?_⟩
    by_cases e : q = p
    · subst e
      rw [port_setPort_self, hy]
    · rw [port_setPort_ne s y e]
  cases h with
  | port p y h => exact .inr (set p y h.state)
  | receive p f => exact .inr (set p _ rfl)
  | change g x => exact .inl ⟨_, rfl⟩
  | quarantine g w => exact .inl ⟨_, rfl⟩
  | linger l r => exact .inl ⟨_, rfl⟩
  | adjust g x hx =>
    refine .inr ⟨.of_groups (fun k => ?_) (fun _ => rfl) rfl rfl, fun _ => rfl⟩
    by_cases e : k = g
    · subst e
      rw [group_setGroup_self, hx]
    · rw [group_setGroup_ne s x e]
  | line l x => exact .inr ⟨by cases l <;> exact ⟨fun _ => rfl, fun _ => rfl⟩, fun p => by simp [State.port]⟩
  | elapse n => exact .inr ⟨⟨awake_elapse n s, prospects_elapse n s⟩, fun _ => rfl⟩
  | _ => exact .inr ⟨⟨fun _ => rfl, fun _ => rfl⟩, fun _ => rfl⟩

theorem Move.synced {s t : State} (h : Move s t) (hs : Synced s) : Synced t := by
  rcases h.view with ⟨u, rfl⟩ | ⟨hv, hp⟩
  · exact synced_sync u
  · exact hs.of_view hp hv

theorem prospects_of_hasHeld {s : State} (hs : HeldForProspects s) {p : PortId} (h : s.hasHeld p = true) : s.prospects p = true := by
  simp only [State.hasHeld, List.any_eq_true, beq_iff_eq] at h
  obtain ⟨e, he, rfl⟩ := h
  exact hs e he

/-- The hold queue of a move: one entry more, for a port with prospects; the entries of before with less time; or some of them. -/
theorem Move.heldForProspects {s t : State} (h : Move s t) (hs : HeldForProspects s) : HeldForProspects t := by
  rcases h.view with ⟨u, rfl⟩ | ⟨hv, -⟩
  · exact heldForProspects_sync u
  · cases h with
    | hold e _ he =>
      intro x hx
      rcases List.mem_append.mp hx with hx | hx
      · exact hs x hx
      · rw [List.mem_singleton.mp hx]
        exact he.elim id (prospects_of_hasHeld hs)
    | unhold l hl => exact hs.of_view hl hv
    | elapse n =>
      intro x hx
      obtain ⟨e, he, rfl⟩ := List.mem_map.mp hx
      rw [prospects_elapse]
      exact hs e he
    | change g x => exact fun e he => (List.mem_filter.mp he).2
    | quarantine g w => exact fun e he => (List.mem_filter.mp he).2
    | linger l r => exact fun e he => (List.mem_filter.mp he).2
    | line l x => exact hs.of_view (by simp) hv
    | _ => exact hs.of_view (List.Sublist.refl _) hv

/-- A law of awakeness that holds whenever changes have been made known, that moves keep, and that other blocks than ports, hold queue,
groups, mode, rule store and agent do not touch. -/
structure ViewLaw (L : State → Prop) : Prop where
  move : ∀ {s t}, Move s t → L s → L t
  sync : ∀ s : State, L s.sync
  view : ∀ {s t : State}, t.ports = s.ports → t.hold = s.hold → SameView s t → L s → L t
  powerOn : ∀ pins, L (State.atPowerOn pins)

theorem tableMove_view {c : Instr} {s t : State} (h : TableMove c s t) : SameView s t := by
  obtain ⟨-, -, hg, -⟩ := tableMove_local h
  have hg' : ∀ g, t.group g = s.group g := fun g => by rw [State.group, hg]; rfl
  have ha : t.activeBank = s.activeBank := by
    cases h with
    | write args a =>
      unfold actWriteTable
      split
      · rfl
      · split
        · rfl
        · dsimp only [answerOk, State.activeBank]
          split <;> simp [RuleStore.active] <;> exact setStandbyBank_active _ _
    | copied _ => exact setStandbyBank_active _ _
    | _ => rfl
  have hm : t.mode = s.mode := by
    cases h with
    | write args a =>
      rw [actWriteTable_frame]
    | _ => rfl
  have hl : t.agent.linger = s.agent.linger := by
    cases h with
    | write args a =>
      unfold actWriteTable
      split
      · rfl
      · split <;> rfl
    | _ => rfl
  exact .of_groups (fun g => by rw [hg']) (fun g => by simp only [State.boundPort, State.params, hm, ha]) (by rw [hm]) (by rw [hl])

theorem synced_of_fields {s t : State} (hp : t.ports = s.ports) (hv : SameView s t) (hs : Synced s) : Synced t :=
  hs.of_view (fun p => by rw [State.port, hp]; rfl) hv

section
variable {L : State → Prop} (hL : ViewLaw L)
include hL

theorem ViewLaw.moves {s t : State} (h : Moves s t) (hs : L s) : L t := h.keep hL.move hs

theorem ViewLaw.announce {s : State} (a : ChargeAccount) (hs : L s) : L (s.announce a) := by
  have ha : L { s with charge := a } := hL.view (s := s) rfl rfl ⟨fun _ => rfl, fun _ => rfl⟩ hs
  unfold State.announce
  dsimp only
  split
  · exact hL.moves (moves_exhaust _) ha
  · exact ha

/-- After a mode entry the law holds, whatever held before. -/
theorem ViewLaw.driveEntry (s : State) : L (driveEntry s) := by
  refine hL.moves (moves_driveGroups s) ?_
  rw [(driveStart_fields s).1]
  exact hL.view (s := State.sync _) rfl rfl ⟨fun _ => rfl, fun _ => rfl⟩ (hL.sync _)

theorem ViewLaw.parkedEntry (s : State) : L (parkedEntry s) := by
  refine hL.moves ((moves_parkedGroups s).1.trans (moves_parkedGroups s).2) ?_
  exact hL.view (s := State.sync _) rfl rfl ⟨fun _ => rfl, fun _ => rfl⟩ (hL.sync _)

theorem ViewLaw.takeSwap (s : State) : L (takeSwap s) := by
  unfold Machine.takeSwap
  dsimp only
  split
  · exact hL.moves (moves_laterSwap _ _) (hL.sync _)
  · rw [firstSwap_eq]
    split
    · exact hL.driveEntry _
    · exact hL.parkedEntry _

theorem ViewLaw.ignEdgeTaken {s : State} (hs : L s) : L (ignEdgeTaken s) := by
  unfold Machine.ignEdgeTaken
  split
  · exact hL.moves (moves_quietWake s _ _ _) hs
  · exact hL.parkedEntry s
  · exact hL.driveEntry s
  · exact hs
  · exact hs

theorem ViewLaw.law : Law L where
  move := hL.move
  table h hs := by
    obtain ⟨h1, h2, -, -⟩ := tableMove_local h
    exact hL.view h1 h2 (tableMove_view h) hs
  swap _ _ _ := hL.takeSwap _
  settle _ _ := hL.announce _
  report v hs := by
    rcases takeReport_cases _ v with h | ⟨n, -, -, h⟩ <;> rw [h]
    · exact hs
    · exact hL.announce _ hs
  edge {s} hs := hL.ignEdgeTaken (hL.view (s := s) rfl rfl ⟨fun _ => rfl, fun _ => rfl⟩ hs)
  powerOn pins _ := hL.view (s := startUp pins) rfl rfl ⟨fun _ => rfl, fun _ => rfl⟩ (hL.moves (moves_startUp pins) (hL.powerOn pins))

end

theorem awake_atPowerOn (pins : PowerOnPins) (p : PortId) : (State.atPowerOn pins).awake p = false := by
  simp [State.awake, State.groupWakes, State.group, State.atPowerOn, Group.atPowerOn, GroupState.wakesPort, Agent.atPowerOn]

theorem viewLaw_synced : ViewLaw Synced where
  move := Move.synced
  sync := synced_sync
  view hp _ hv hs := synced_of_fields hp hv hs
  powerOn pins p := by
    rw [awake_atPowerOn]
    simp [State.port, State.atPowerOn, Port.atPowerOn]

theorem viewLaw_heldForProspects : ViewLaw HeldForProspects where
  move := Move.heldForProspects
  sync := heldForProspects_sync
  view _ hh hv hs := hs.of_view (by rw [hh]) hv
  powerOn _ e he := by cases he

/-! ### What waits at port 0 -/

/-- At port 0 a frame and a request never wait together (R39, R146). -/
def OneWaits (s : State) : Prop := (s.port 0).waiting = none ∨ s.agent.request = none

theorem WaitingKept.oneWaits {s t : State} (h : WaitingKept s t) (hs : OneWaits s) : OneWaits t :=
  hs.imp (h.2 0).trans h.1.trans

theorem Move.oneWaits {s t : State} (h : Move s t) (hs : OneWaits s) : OneWaits t := by
  have follow : ∀ {u v : State}, PortsFollow u v → v.agent = u.agent → OneWaits u → OneWaits v := fun hf ha =>
    (hf.waiting (by rw [ha])).oneWaits
  cases h with
  | port p y h =>
    by_cases e : p = 0
    · subst e
      exact hs.imp (fun hw => by rw [port_setPort_self]; exact h.waiting.elim (·.trans hw) id) id
    · exact hs.imp (fun hw => by rw [port_setPort_ne s y (Ne.symm e)]; exact hw) id
  | receive p f hr =>
    by_cases e : p = 0
    · exact .inr (hr e)
    · exact hs.imp (fun hw => by rw [port_setPort_ne s _ (Ne.symm e)]; exact hw) id
  | divert d hw => exact .inl hw
  | change g x => exact follow (portsFollow_changeGroup s g x) rfl hs
  | quarantine g w => exact follow (portsFollow_changeGroup (s.setStorm g _) g _) rfl hs
  | linger l r hr =>
    refine follow (portsFollow_sync _) rfl ?_
    exact hs.elim .inl fun h => .inr (hr.elim (·.trans h) id)
  | elapse n => exact hs
  | line l x => exact hs.imp (by simpa [State.port] using ·) (by simpa using ·)
  | _ => exact hs

theorem oneWaits_mode {s t : State} (hf : PortsFollow s t) (hk : Keeps s t) (hs : OneWaits s) : OneWaits t :=
  (hf.waiting (by rw [hk.agent])).oneWaits hs

theorem tableMove_request {c : Instr} {s t : State} (h : TableMove c s t) : t.agent.request = s.agent.request := by
  cases h with
  | write args a =>
    unfold actWriteTable
    split
    · rfl
    · split <;> rfl
  | _ => rfl

theorem law_oneWaits : Law OneWaits where
  move := Move.oneWaits
  table h hs := by
    obtain ⟨hp, -, -, -⟩ := tableMove_local h
    refine WaitingKept.oneWaits ⟨tableMove_request h, fun p => ?_⟩ hs
    rw [State.port, hp]
    rfl
  swap {s} _ _ hs := oneWaits_mode (s := exchangeBanks s) ((portsFollow_takeSwap s).of_frame rfl rfl) (takeSwap_keeps s) hs
  settle _ _ hs := oneWaits_mode (portsFollow_announce _ _) (keeps_announce _ _) hs
  report v hs := oneWaits_mode (portsFollow_takeReport _ v) (reportKeeps_takeReport _ v).keeps hs
  edge {s} hs := by
    have h : OneWaits (s.setLine .ign (lineEdge s.lines.ign)) := hs
    unfold ignEdgeTaken
    split
    · exact (waitingKept_quietWake _ _ _ _).oneWaits h
    · exact oneWaits_mode (portsFollow_parkedEntry _) (parkedEntry_keeps _) h
    · exact oneWaits_mode (portsFollow_driveEntry _) (driveEntry_keeps _) h
    · exact h
    · exact h
  powerOn pins _ := (moves_startUp pins).keep (L := OneWaits) Move.oneWaits (.inr rfl)

/-! ### The laws -/

theorem portsLaw_iff (s : State) : PortsLaw s ↔ Synced s ∧ (∀ p, PortSound (s.port p)) ∧ OneWaits s := by
  simp only [PortsLaw, portLaw_iff, forall_and, and_assoc]
  rfl

/-- Settles O7: changes of awakeness are made known at once, each port keeps its own law, and one reception waits at port 0. -/
theorem stepKeepsPortsLaw : Obligations.StepKeepsPortsLaw := by
  intro s t hs h
  obtain ⟨hsync, hsound, hwait⟩ := (portsLaw_iff s).mp hs
  exact (portsLaw_iff t).mpr ⟨viewLaw_synced.law.step (fun _ _ => id) hsync h, localLaw_sound.law.step (fun _ _ => id) hsound h,
    law_oneWaits.step (fun _ _ => id) hwait h⟩

/-- R61: at most 48 entries are held. -/
theorem localLaw_holdRoom : LocalLaw (fun s => s.hold.length ≤ 48) := by
  have filter : ∀ (l : List HoldEntry) (p : HoldEntry → Bool), l.length ≤ 48 → (l.filter p).length ≤ 48 := fun l p h =>
    (List.length_filter_le p l).trans h
  refine ⟨fun hm hs => ?_, fun hs => filter _ _ hs, fun _ hh _ _ hs => by rwa [hh], fun _ => Nat.zero_le _⟩
  cases hm with
  | hold e hroom _ =>
    rw [List.length_append, List.length_singleton]
    exact hroom
  | unhold l hl => exact hl.length_le.trans hs
  | change g x => exact filter _ _ hs
  | quarantine g w => exact filter _ _ hs
  | linger l r => exact filter _ _ hs
  | elapse n => exact (List.length_map _).trans_le hs
  | line l x => simpa using hs
  | _ => exact hs

/-- Settles O9: an entry is made where there is room and the port has prospects, and a port without them loses its run at once. -/
theorem stepKeepsHoldLaw : Obligations.StepKeepsHoldLaw := fun _ _ hs h =>
  ⟨localLaw_holdRoom.law.step (fun _ _ => id) hs.1 h, viewLaw_heldForProspects.law.step (fun _ _ => id) hs.2 h⟩

end Sys2Proof.Machine
end

section
/-! The laws of the rule store, the charge account, the mode and its timers (R19, R33, R100, R103, R108, R113, R114, R117, R124). -/

namespace Sys2Proof.Machine

/-! ### The mode after a swap and after an IGN edge -/

theorem ignEdgeTaken_keeps (s : State) : Keeps s (ignEdgeTaken s) := by
  unfold ignEdgeTaken
  split
  · exact (wakeFrame_quietWake _ _ _ _).keeps
  · exact parkedEntry_keeps s
  · exact driveEntry_keeps s
  · exact .refl s
  · exact .refl s

/-- A later swap keeps the mode (R36). -/
theorem takeSwap_mode_of_configured {s : State} (h : s.mode.configured = true) : (takeSwap s).mode = s.mode := by
  have hf := wakeFrame_laterSwap s.activeBank (exchangeBanks s)
  rw [takeSwap, if_pos h, hf.mode]
  rfl

/-- The first swap enters the mode that the IGN level names (R107). -/
theorem takeSwap_mode_of_first {s : State} (h : s.mode.configured = false) :
    (takeSwap s).mode =
      { s.mode with mode := if s.lines.ign.level then .drive else .parked, modeTime := 0, secondLeft := 1000, configured := true,
                    parkSettle := if s.lines.ign.level then none else some (s.store.standbyBank.parkSettle * 1000) } := by
  obtain ⟨u, hu, he⟩ := firstSwap_cases (exchangeBanks s)
  have hm := hu.mode
  have hb : u.activeBank = s.store.standbyBank := by
    rw [State.activeBank, hu.keeps.store]
    exact exchange_active s.store
  have hswap : takeSwap s = if s.lines.ign.level then driveEntry u else parkedEntry u := by
    rw [takeSwap, if_neg (by simp [h])]
    exact he
  rw [hswap]
  by_cases hi : s.lines.ign.level = true
  · rw [if_pos hi, if_pos hi, if_pos hi, driveEntry_mode, hm]
    rfl
  · rw [if_neg hi, if_neg hi, if_neg hi, parkedEntry_mode, hm, hb]
    rfl

theorem takeSwap_configured (s : State) : (takeSwap s).mode.configured = true := by
  by_cases h : s.mode.configured = true
  · rw [takeSwap_mode_of_configured h, h]
  · rw [takeSwap_mode_of_first (by simpa using h)]

/-! ### Banks -/

theorem wf_standbyBank {s : State} (h : BanksLaw s) : s.store.standbyBank.wf = true := by
  unfold RuleStore.standbyBank
  split
  · exact h.1
  · exact h.2

theorem wf_activeBank {s : State} (h : BanksLaw s) : s.activeBank.wf = true := by
  unfold State.activeBank RuleStore.active
  split
  · exact h.2
  · exact h.1

/-- An accepted WRITE-TABLE, without its refusals (R155). -/
theorem actWriteTable_cases (a : List Byte) (s : State) :
    (actWriteTable a s).state = s ∨
    ∃ x, x = writeBytes s.store.lockPages s.store.standbyBank s.agent.pointer a ∧
      (actWriteTable a s).state =
        { s with store := if x.2.2 = 0 then s.store.setStandbyBank x.1 else { s.store.setStandbyBank x.1 with standby := .dirty },
                 agent := { s.agent with pointer := x.2.1, latch := none } } := by
  unfold actWriteTable
  split
  · exact .inl rfl
  · split
    · exact .inl rfl
    · exact .inr ⟨_, rfl, rfl⟩

theorem banksLaw_table {c : Instr} {s t : State} (h : TableMove c s t) (hs : BanksLaw s) : BanksLaw t := by
  cases h with
  | write args a _ =>
    rcases actWriteTable_cases a s with h | ⟨x, hx, h⟩ <;> rw [h]
    · exact hs
    · have hw := setStandbyBank_wf hs.1 hs.2 (m := x.1) (by rw [hx]; exact wf_writeBytes (wf_standbyBank hs))
      unfold BanksLaw
      dsimp only
      split <;> exact hw
  | copied _ => exact setStandbyBank_wf hs.1 hs.2 (wf_activeBank hs)
  | _ => exact hs

theorem BanksLaw.of_store {s t : State} (h : t.store = s.store) (hs : BanksLaw s) : BanksLaw t := by
  unfold BanksLaw
  rwa [h]

theorem law_banks : Law BanksLaw where
  move h hs := hs.of_store h.still.store
  table := banksLaw_table
  swap _ _ hs := .of_store (takeSwap_keeps _).store hs
  settle _ _ hs := hs.of_store (keeps_announce _ _).store
  report v hs := hs.of_store (reportKeeps_takeReport _ v).keeps.store
  edge hs := .of_store (ignEdgeTaken_keeps _).store hs
  powerOn pins _ := (moves_startUp pins).keep (L := BanksLaw) (fun h hs => hs.of_store h.still.store) ⟨rfl, rfl⟩

/-! ### Verified tables -/

/-- Where no byte was stored the bank is as it was (R155). -/
theorem writeBytes_count {lock : PageSet} (data : List Byte) (acc : Memory × TablePointer × Nat) :
    acc.2.2 ≤ (data.foldl (writeByte lock) acc).2.2 ∧
    ((data.foldl (writeByte lock) acc).2.2 = acc.2.2 → (data.foldl (writeByte lock) acc).1 = acc.1) := by
  induction data generalizing acc with
  | nil => exact ⟨le_refl _, fun _ => rfl⟩
  | cons b rest ih =>
    obtain ⟨m, p, n⟩ := acc
    rw [List.foldl_cons, writeByte]
    dsimp only
    split
    · exact ih (m, p.advance 1, n)
    · have hle : n + 1 ≤ _ := (ih (m.write p.offset b, p.advance 1, n + 1)).1
      exact ⟨by omega, fun h => by omega⟩

/-- The law of verified tables reads rule store, mode, `configured` and the agent's state alone. -/
theorem VerifiedLaw.of_same {s t : State} (hst : t.store = s.store) (hm : t.mode.mode = s.mode.mode)
    (hc : t.mode.configured = s.mode.configured) (ha : t.agent.state = s.agent.state) (hs : VerifiedLaw s) : VerifiedLaw t := by
  unfold VerifiedLaw State.activeBank
  rwa [hst, hm, hc, ha]

theorem verifiedLaw_table {c : Instr} {s t : State} (h : TableMove c s t) (hs : VerifiedLaw s) : VerifiedLaw t := by
  obtain ⟨hv, hact, hmode, hop, hcopy⟩ := hs
  cases h with
  | write args a _ hidle =>
    rcases actWriteTable_cases a s with h | ⟨x, hx, h⟩ <;> rw [h]
    · exact ⟨hv, hact, hmode, hop, hcopy⟩
    · split
      · rename_i h0
        have hsame : x.1 = s.store.standbyBank := by
          have := (writeBytes_count (lock := s.store.lockPages) a (s.store.standbyBank, s.agent.pointer, 0)).2
          rw [hx] at h0 ⊢
          exact this h0
        refine ⟨fun h => ?_, fun hc => ?_, hmode, fun hne => absurd hidle hne, fun hc => ?_⟩
        · rw [setStandbyBank_standbyBank, hsame]
          refine hv (Eq.trans ?_ h)
          unfold RuleStore.setStandbyBank
          split <;> rfl
        · exact (congrArg verifyBank (setStandbyBank_active _ _)).trans (hact hc)
        · rw [hidle] at hc
          cases hc
      · refine ⟨fun h => (by cases h), fun hc => ?_, hmode, fun hne => absurd hidle hne, fun hc => ?_⟩
        · exact (congrArg verifyBank (setStandbyBank_active _ _)).trans (hact hc)
        · rw [hidle] at hc
          cases hc
  | abort args _ _ => exact ⟨fun h => (by cases h), hact, hmode, fun h => absurd rfl h, fun h => (by cases h)⟩
  | verify args _ _ => exact ⟨fun h => (by cases h), hact, hmode, fun _ => rfl, fun h => (by cases h)⟩
  | lock args _ set _ => exact ⟨hv, hact, hmode, hop, hcopy⟩
  | verified _ =>
    refine ⟨fun h => ?_, hact, hmode, fun h => absurd rfl h, fun h => (by cases h)⟩
    show verifyBank s.store.standbyBank = none
    simp only [completeVerification] at h
    cases hr : verifyBank s.store.standbyBank with
    | none => rfl
    | some f =>
      rw [hr] at h
      cases h
  | copied _ hc =>
    refine ⟨fun _ => ?_, fun h => ?_, hmode, fun h => absurd rfl h, fun h => (by cases h)⟩
    · exact (congrArg verifyBank (setStandbyBank_standbyBank _ _)).trans (hact (hcopy hc))
    · exact (congrArg verifyBank (setStandbyBank_active _ _)).trans (hact h)

/-- The mode after an IGN edge leaves UNCONFIGURED no more than it enters it. -/
theorem ignEdgeTaken_mode (s : State) :
    ((ignEdgeTaken s).mode.mode = .unconfigured ↔ s.mode.mode = .unconfigured) ∧
    (ignEdgeTaken s).mode.configured = s.mode.configured := by
  unfold ignEdgeTaken
  split
  · rw [(wakeFrame_quietWake s _ _ _).mode]
    exact ⟨Iff.rfl, rfl⟩
  · rw [parkedEntry_mode]
    simp_all
  · rw [driveEntry_mode]
    simp_all
  · exact ⟨Iff.rfl, rfl⟩
  · exact ⟨Iff.rfl, rfl⟩

theorem law_verified : Law VerifiedLaw where
  move h hs := hs.of_same h.still.store h.still.mode h.still.configured h.still.agent
  table := verifiedLaw_table
  swap {s} hidle hver hs := by
    obtain ⟨hv, -, hmode, -, -⟩ := hs
    have hk := takeSwap_keeps s
    have hstore : (takeSwap s).store = { s.store.exchange with standby := .dirty } := hk.store
    refine ⟨fun h => ?_, fun _ => ?_, iff_of_false ?_ ?_, fun _ => by rw [hstore], fun _ => takeSwap_configured s⟩
    · rw [hstore] at h
      cases h
    · rw [State.activeBank, hstore]
      exact (congrArg verifyBank (exchange_active s.store)).trans (hv hver)
    · by_cases hc : s.mode.configured = true
      · rw [takeSwap_mode_of_configured hc]
        exact fun h => by simp [hmode.mp h] at hc
      · rw [takeSwap_mode_of_first (by simpa using hc)]
        dsimp only
        split <;> simp
    · simp [takeSwap_configured s]
  settle _ _ hs := hs.of_same (keeps_announce _ _).store (by rw [settleInterval, mode_announce]) (by rw [settleInterval, mode_announce])
    (by rw [settleInterval, (keeps_announce _ _).agent])
  report {s} v hs := by
    have hk := reportKeeps_takeReport s v
    exact hs.of_same hk.keeps.store (by rw [hk.mode]) (by rw [hk.mode]) (by rw [hk.keeps.agent])
  edge {s} hs := by
    obtain ⟨hv, hact, hmode, hop, hcopy⟩ := hs
    have hk := ignEdgeTaken_keeps (s.setLine .ign (lineEdge s.lines.ign))
    obtain ⟨hm, hc⟩ := ignEdgeTaken_mode (s.setLine .ign (lineEdge s.lines.ign))
    unfold VerifiedLaw State.activeBank
    rw [hk.store, hk.agent, hm, hc]
    exact ⟨hv, hact, hmode, hop, hcopy⟩
  powerOn pins _ := by
    refine (moves_startUp pins).keep (L := VerifiedLaw)
      (fun h hs => hs.of_same h.still.store h.still.mode h.still.configured h.still.agent) ?_
    exact ⟨fun h => (by cases h), fun h => (by cases h), iff_of_true rfl rfl, fun h => absurd rfl h, fun h => (by cases h)⟩

/-- Settles O10: bytes are stored in canonical form, and only a bank that verification has passed changes roles. -/
theorem stepKeepsBanksAndVerifiedLaw : Obligations.StepKeepsBanksAndVerifiedLaw := fun _ _ h =>
  ⟨fun hs => law_banks.step (fun _ _ => id) hs h, fun hs => law_verified.step (fun _ _ => id) hs h⟩

/-! ### The charge account -/

/-- A law of the charge account that holds after each of the account's operations. -/
structure AccountLaw (P : ChargeAccount → Prop) : Prop where
  inrush : ∀ {a} (n), P a → P (addInrush n a)
  pass : ∀ {a} (d : Vector Nat 8) (t : Option Nat),
    (∀ g, d.get g = a.drawn.get g ∨ ∃ n, d.get g = satAdd Config.intervalMs (a.drawn.get g) n) → P a →
    P { a with drawn := d, timer := t }
  exchange : ∀ {a} (m), P a → P (relevel (rethreshold m a))
  settle : ∀ {a} (m t u), P a → P { settleAccount m t a with timer := u }
  report : ∀ {a} (v), P a → P (reportAccount v a)
  park : ∀ m a, P (parkAccount m a)
  powerOn : P ChargeAccount.atPowerOn

section
variable {P : ChargeAccount → Prop} (hP : AccountLaw P)
include hP

theorem AccountLaw.move {s t : State} (h : Move s t) (hs : P s.charge) : P t.charge := by
  cases h with
  | inrush n => exact hP.inrush n hs
  | elapse n =>
    refine hP.pass _ _ (fun g => ?_) hs
    rw [tabGroups_get]
    split
    · exact .inr ⟨_, rfl⟩
    · exact .inl rfl
  | line l x => simpa using hs
  | _ => exact hs

theorem AccountLaw.moves {s t : State} (h : Moves s t) (hs : P s.charge) : P t.charge := h.keep (L := fun u => P u.charge) hP.move hs

theorem AccountLaw.driveEntry {s : State} (hs : P s.charge) : P (driveEntry s).charge := by
  refine hP.moves (moves_driveGroups s) ?_
  rw [(driveStart_fields s).2]
  split
  · unfold finalSettlement
    split
    · exact hP.settle _ _ _ hs
    · exact hs
  · exact hs

theorem AccountLaw.parkedEntry (s : State) : P (parkedEntry s).charge := by
  rw [parkedEntry_charge]
  exact hP.park _ _

theorem AccountLaw.law : Law (fun s => P s.charge) where
  move := hP.move
  table h hs := by
    cases h with
    | write args a _ =>
      rw [actWriteTable_frame]
      exact hs
    | _ => exact hs
  swap {s} _ _ hs := by
    have he : P (exchangeBanks s).charge := hP.exchange _ hs
    unfold takeSwap
    dsimp only
    split
    · exact hP.moves (moves_laterSwap _ _) he
    · rw [firstSwap_eq]
      split
      · exact hP.driveEntry (hP.moves (moves_firstSwapStart _) he)
      · exact hP.parkedEntry _
  settle _ _ hs := by
    rw [settleInterval, charge_announce]
    exact hP.settle _ _ _ hs
  report v hs := by
    rcases takeReport_cases _ v with h | ⟨n, -, -, h⟩ <;> rw [h]
    · exact hs
    · rw [charge_announce]
      exact hP.report n hs
  edge hs := by
    unfold ignEdgeTaken
    split
    · exact hP.moves (moves_quietWake _ _ _ _) hs
    · exact hP.parkedEntry _
    · exact hP.driveEntry hs
    · exact hs
    · exact hs
  powerOn pins _ := hP.moves (s := State.atPowerOn pins) (t := startUp pins) (moves_startUp pins) hP.powerOn

end

theorem u16_le (m : Memory) (a : Nat) : m.u16 a ≤ 65535 := by
  have h1 := (m.read a).isLt
  have h2 := (m.read (a + 1)).isLt
  simp only [Memory.u16]
  omega

theorem parkBudget_le (m : Memory) : m.parkBudget ≤ 4294967295 := by
  have h1 := u16_le m 2
  have h2 := u16_le m (2 + 2)
  simp only [Memory.parkBudget, Memory.u32]
  omega

/-- R22, R124: the effective fractions rise, and so do the thresholds, up to P_active. -/
theorem thresholds_rise (m : Memory) (p : Nat) :
    threshold p m.q1 ≤ threshold p m.q2 ∧ threshold p m.q2 ≤ threshold p m.q3 ∧ threshold p m.q3 ≤ p := by
  have hmono : ∀ {a b : Nat}, a ≤ b → threshold p a ≤ threshold p b := fun h => Nat.div_le_div_right (Nat.mul_le_mul_left p h)
  have h3 : m.q3 ≤ 65536 := by
    have h1 := u16_le m 7
    have h2 := u16_le m 9
    have h3 := u16_le m 11
    simp only [Memory.q3, Memory.q2]
    omega
  refine ⟨hmono (le_max_left _ _), hmono (le_max_left _ _), ?_⟩
  calc threshold p m.q3 ≤ threshold p 65536 := hmono h3
    _ = p := Nat.mul_div_cancel p (by decide)

theorem satAdd_wordMax_le {a n : Nat} (h : a ≤ 4294967295) : satAdd Config.wordMax a n ≤ 4294967295 :=
  satAdd_le (limit := Config.wordMax) h

/-- The account's law, of the account alone (R113, R114, R124). -/
def ChargeSound (a : ChargeAccount) : Prop :=
  a.bRem + a.spent + a.cut = a.pActive ∧ a.pActive ≤ 4294967295 ∧ a.carry ≤ 999 ∧ (∀ g : GroupId, a.drawn.get g ≤ 1000) ∧
  a.inrush ≤ 2040 ∧ a.shortfall ≤ 4294967295 ∧ a.l1 ≤ a.l2 ∧ a.l2 ≤ a.l3 ∧ a.l3 ≤ a.pActive

/-- The level does not enter into the account's law. -/
theorem chargeSound_relevel {a : ChargeAccount} (h : ChargeSound a) : ChargeSound (relevel a) := by
  rw [relevel_frame]
  exact h

theorem zeros_le (g : GroupId) : (tabGroups (fun _ => 0) : Vector Nat 8).get g ≤ 1000 := by
  rw [tabGroups_get]
  exact Nat.zero_le _

theorem accountLaw_charge : AccountLaw ChargeSound where
  inrush n h := by
    obtain ⟨hsum, hp, hc, hd, hi, hsh, h1, h2, h3⟩ := h
    exact ⟨hsum, hp, hc, hd, satAdd_le hi, hsh, h1, h2, h3⟩
  pass d t hd h := by
    obtain ⟨hsum, hp, hc, hdr, hi, hsh, h1, h2, h3⟩ := h
    refine ⟨hsum, hp, hc, fun g => ?_, hi, hsh, h1, h2, h3⟩
    rcases hd g with e | ⟨n, e⟩ <;> rw [e]
    · exact hdr g
    · exact satAdd_le (hdr g)
  exchange m h := by
    obtain ⟨hsum, hp, hc, hd, hi, hsh, -, -, -⟩ := h
    exact chargeSound_relevel ⟨hsum, hp, hc, hd, hi, hsh, thresholds_rise m _⟩
  settle {a} m t u h := by
    obtain ⟨hsum, hp, -, -, -, hsh, h1, h2, h3⟩ := h
    have hr : ChargeSound (settleAccount m t a) := by
      unfold settleAccount
      refine chargeSound_relevel ⟨?_, hp, ?_, zeros_le, Nat.zero_le _, satAdd_wordMax_le hsh, h1, h2, h3⟩
      · dsimp only
        omega
      · dsimp only
        omega
    exact hr
  report {a} v h := by
    obtain ⟨hsum, hp, hc, hd, hi, hsh, h1, h2, h3⟩ := h
    unfold reportAccount
    split
    · refine chargeSound_relevel ⟨?_, hp, hc, hd, hi, hsh, h1, h2, h3⟩
      dsimp only
      omega
    · exact chargeSound_relevel ⟨hsum, hp, hc, hd, hi, hsh, h1, h2, h3⟩
  park m a := by
    unfold parkAccount
    refine chargeSound_relevel ⟨by simp [rethreshold], parkBudget_le m, Nat.zero_le 999, zeros_le, Nat.zero_le 2040, Nat.zero_le 4294967295,
      thresholds_rise m _⟩
  powerOn := ⟨rfl, Nat.zero_le 4294967295, Nat.zero_le 999, zeros_le, Nat.zero_le 2040, Nat.zero_le 4294967295, le_refl 0, le_refl 0,
    le_refl 0⟩

/-- The law of the level, of the account alone (R117, R125). -/
def LevelSound (a : ChargeAccount) : Prop :=
  (a.loaded = true → a.level = levelOf a.bRem a.l2 a.l3) ∧ (a.loaded = false → a.level = .opened)

/-- Whatever has changed but the level, recomputing it restores its law. -/
theorem levelSound_relevel {a b : ChargeAccount} (hl : b.loaded = a.loaded) (hv : b.level = a.level) (h : LevelSound a) :
    LevelSound (relevel b) := by
  unfold relevel
  split
  · exact ⟨fun _ => rfl, fun hf => by simp_all⟩
  · exact ⟨fun ht => absurd ht ‹_›, fun hf => hv.trans (h.2 (hl ▸ hf))⟩

theorem accountLaw_level : AccountLaw LevelSound where
  inrush _ h := h
  pass _ _ _ h := h
  exchange {a} m h := levelSound_relevel (a := a) rfl rfl h
  settle {a} m t u h := by
    have hr : LevelSound (settleAccount m t a) := by
      unfold settleAccount
      exact levelSound_relevel (a := a) rfl rfl h
    exact hr
  report {a} v h := by
    unfold reportAccount
    split
    · exact levelSound_relevel (a := a) rfl rfl h
    · exact levelSound_relevel (a := a) rfl rfl h
  park m a := ⟨fun _ => by simp [parkAccount, relevel, rethreshold], fun hf => by simp [parkAccount, relevel, rethreshold] at hf⟩
  powerOn := ⟨fun h => (by cases h), fun _ => rfl⟩

/-- Settles O14: every operation of the account keeps its sum and ranges and recomputes the level. -/
theorem stepKeepsChargeAndLevelLaw : Obligations.StepKeepsChargeAndLevelLaw := fun _ _ h =>
  ⟨fun hs => accountLaw_charge.law.step (fun _ _ => id) hs h, fun hs => accountLaw_level.law.step (fun _ _ => id) hs h⟩

end Sys2Proof.Machine
end

section
/-! The laws that tie groups to mode, budget, rule store and storm records (R36, R75, R89, R91, R103, R108, R131 to R134). -/

namespace Sys2Proof.Machine

/-! ### What exhaustion leaves -/

/-- R92: exhaustion of one channel. -/
theorem group_forceGroup_self (s : State) (g : GroupId) :
    (forceGroup s g).group g = exhaustedChannel (s.params g) (s.group g) := by
  have hd := group_enterDraining_self g s
  unfold forceGroup exhaustedChannel
  split
  · cases hst : (s.group g).state with
    | powering => simp [group_enterOff_self, groupOff, offChannel]
    | releasing =>
      dsimp only
      rw [group_recordPlain, hd]
      rfl
    | up =>
      dsimp only
      rw [group_recordPlain, hd]
      rfl
    | _ => rfl
  · rfl

theorem GroupFrame.params {s t : State} (h : GroupFrame s t) (g : GroupId) : t.params g = s.params g := by
  unfold GroupFrame at h
  rw [h]
  rfl

theorem WakeFrame.params {s t : State} (h : WakeFrame s t) (g : GroupId) : t.params g = s.params g := by
  unfold WakeFrame at h
  rw [h]
  rfl

/-- R92: exhaustion, channel by channel. -/
theorem group_exhaust (s : State) (g : GroupId) : s.exhaust.group g = exhaustedChannel (s.params g) (s.group g) := by
  obtain ⟨u, hu, hg, he⟩ := group_foldl (f := forceGroup) (K := GroupFrame s) (fun t k _ hne => group_forceGroup_ne t hne)
    (fun t k ht => ht.trans (groupFrame_forceGroup t k)) allGroups allGroups_nodup s (.refl s) g (mem_allGroups g)
  rw [State.exhaust, he, group_forceGroup_self, hg, hu.params]

theorem spared_exhaustedChannel (r : GroupParams) (x : Group) : Spared (exhaustedChannel r x) := by
  unfold exhaustedChannel
  split
  · split
    · exact spared_groupOff x
    · split
      · exact spared_groupOff x
      · exact fun _ => by simp
    · split
      · exact spared_groupOff x
      · exact fun _ => by simp
    all_goals exact fun _ => by simp [*]
  · rename_i hl
    exact fun h => absurd h hl

/-! ### The law of exhaustion -/

theorem exhaustionLaw_iff (s : State) : ExhaustionLaw s ↔ (s.budgetSpent → ∀ g, Spared (s.group g)) :=
  ⟨fun h hb g hl => h hb.1 hb.2 g hl, fun h hm hb g hl => h ⟨hm, hb⟩ g hl⟩

/-- The law of exhaustion with the law of the groups, on which it rests. -/
def GroupsSpared (s : State) : Prop := GroupsLaw s ∧ (s.budgetSpent → ∀ g, Spared (s.group g))

theorem Move.groupsSpared {s t : State} (h : Move s t) (hs : GroupsSpared s) : GroupsSpared t := by
  refine ⟨localLaw_groups.move h hs.1, fun hb => ?_⟩
  obtain ⟨hlaw, hsp⟩ := hs
  have hb' := budgetSpent_of_still h.still hb
  have hall := hsp hb'
  cases h with
  | change g x h =>
    exact forall_group_set (P := fun _ => Spared) g (group_changeGroup_self _ g x) (fun _ e => group_changeGroup_ne _ x e)
      (h.spent hb' (hlaw g) (hall g)) hall
  | adjust g x _ h =>
    exact forall_group_set (P := fun _ => Spared) g (group_setGroup_self _ g x) (fun _ e => group_setGroup_ne _ x e)
      (h.spent hb' (hlaw g) (hall g)) hall
  | quarantine g w _ _ =>
    exact forall_group_set (P := fun _ => Spared) g (group_changeGroup_self _ g _) (fun _ e => group_changeGroup_ne _ _ e)
      (spared_of_class rfl) hall
  | elapse n => exact fun g => by rw [group_elapse]; exact hall g
  | line l x _ => simpa [State.group] using hall
  | _ => exact hall

theorem Moves.groupsSpared {s t : State} (h : Moves s t) (hs : GroupsSpared s) : GroupsSpared t := h.keep Move.groupsSpared hs

theorem GroupsSpared.of_same {s t : State} (hg : t.groups = s.groups) (hb : t.budgetSpent → s.budgetSpent) (hs : GroupsSpared s) :
    GroupsSpared t := by
  obtain ⟨hlaw, hsp⟩ := hs
  refine ⟨fun g => ?_, fun h g => ?_⟩
  · rw [State.group, hg]
    exact hlaw g
  · rw [State.group, hg]
    exact hsp (hb h) g

theorem groupsSpared_exhaust {s : State} (h : GroupsLaw s) : GroupsSpared s.exhaust :=
  ⟨localLaw_groups.moves (moves_exhaust s) h, fun _ g => by rw [group_exhaust]; exact spared_exhaustedChannel _ _⟩

/-- R120 step 9, R128 step 6: where B_rem falls to 0 the announcement forces the low classes; where it stays 0 they are forced already. -/
theorem GroupsSpared.announce {s : State} (a : ChargeAccount) (hs : GroupsSpared s) : GroupsSpared (s.announce a) := by
  unfold State.announce
  dsimp only
  split
  · exact groupsSpared_exhaust (s := { s with charge := a }) hs.1
  · rename_i hn
    refine .of_same (s := s) rfl (fun hb => ⟨hb.1, ?_⟩) hs
    by_contra h0
    exact hn ⟨hb.2, h0⟩

theorem groupsSpared_driveEntry {s : State} (h : GroupsLaw s) : GroupsSpared (driveEntry s) := by
  refine ⟨localLaw_groups.driveEntry h, fun hb => ?_⟩
  have hm := hb.1
  rw [driveEntry_mode] at hm
  cases hm

/-- R116: a park budget of 0 is exhaustion. -/
theorem groupsSpared_parkedEntry {s : State} (h : GroupsLaw s) : GroupsSpared (parkedEntry s) := by
  have hstart : GroupsLaw (parkedStart s) := h
  refine (moves_parkedGroups s).2.groupsSpared ?_
  unfold parkedSpent
  split
  · exact groupsSpared_exhaust hstart
  · rename_i hp
    refine ⟨hstart, fun hb => absurd ?_ hp⟩
    rw [← (parkAccount_fields s.activeBank s.charge).2.1]
    exact hb.2

theorem exchangeBanks_bRem (s : State) : (exchangeBanks s).charge.bRem = s.charge.bRem := by
  simp only [exchangeBanks]
  rw [relevel_frame]
  rfl

theorem law_groupsSpared : Law GroupsSpared where
  move := Move.groupsSpared
  table h hs := by
    obtain ⟨-, -, hg, -⟩ := tableMove_local h
    refine hs.of_same hg ?_
    cases h with
    | write args a _ =>
      rw [actWriteTable_frame]
      exact id
    | _ => exact id
  swap {s} _ _ hs := by
    have he : GroupsSpared (exchangeBanks s).sync :=
      .of_same (s := s) rfl (fun hb => ⟨hb.1, exchangeBanks_bRem s ▸ hb.2⟩) hs
    unfold takeSwap
    dsimp only
    split
    · exact (moves_laterSwap _ _).groupsSpared he
    · have hg : GroupsLaw (firstSwapStart (exchangeBanks s)) := localLaw_groups.moves (moves_firstSwapStart _) he.1
      rw [firstSwap_eq]
      split
      · exact groupsSpared_driveEntry hg
      · exact groupsSpared_parkedEntry hg
  settle _ _ hs := hs.announce _
  report v hs := by
    rcases takeReport_cases _ v with h | ⟨n, -, -, h⟩ <;> rw [h]
    · exact hs
    · exact hs.announce _
  edge hs := by
    unfold ignEdgeTaken
    split
    · exact (moves_quietWake _ _ _ _).groupsSpared hs
    · exact groupsSpared_parkedEntry hs.1
    · exact groupsSpared_driveEntry hs.1
    · exact hs
    · exact hs
  powerOn pins _ := by
    refine (moves_startUp pins).groupsSpared ⟨localLaw_groups.powerOn pins, fun hb => ?_⟩
    cases hb.1

/-- Settles O12, with the law of the groups as part of the invariant. -/
theorem stepKeepsExhaustionLaw : Obligations.StepKeepsExhaustionLaw := fun s t hg hs h =>
  (exhaustionLaw_iff t).mpr (law_groupsSpared.step (fun _ _ => id) ⟨hg, (exhaustionLaw_iff s).mp hs⟩ h).2

/-! ### Absent groups -/

theorem present_params {s : State} (hm : s.mode.mode ≠ .unconfigured) (g : GroupId) :
    (s.params g).present = s.activeBank.present g := by
  unfold State.params
  split
  · exact absurd ‹_› hm
  · rfl
  · rfl

/-- Every group that is not present in the active bank is OFF, whatever the mode. -/
def AbsentOff (s : State) : Prop := ∀ g, s.activeBank.present g = false → (s.group g).state = .off

theorem AbsentOff.of_same {s t : State} (hb : t.activeBank = s.activeBank) (hg : ∀ g, (t.group g).state = (s.group g).state)
    (hs : AbsentOff s) : AbsentOff t := fun g h => by rw [hg]; exact hs g (hb ▸ h)

theorem Move.absentLaw {s t : State} (h : Move s t) (hs : AbsentLaw s) : AbsentLaw t := by
  intro hm
  have hk := h.still
  have hms : s.mode.mode ≠ .unconfigured := hk.mode ▸ hm
  have hoff := hs hms
  rw [hk.activeBank]
  have hset : ∀ g x, Change s g x → s.activeBank.present g = false → x.state = .off := fun g x hc hp =>
    hc.present.elim id fun h => h.elim (fun hne => absurd (hoff g hp) hne) fun h => by
      rw [present_params hms, hp] at h
      cases h
  cases h with
  | change g x h =>
    exact forall_group_set (P := fun k (y : Group) => s.activeBank.present k = false → y.state = .off) g
      (group_changeGroup_self _ g x) (fun _ e => group_changeGroup_ne _ x e) (hset g x h) hoff
  | adjust g x _ h =>
    exact forall_group_set (P := fun k (y : Group) => s.activeBank.present k = false → y.state = .off) g
      (group_setGroup_self _ g x) (fun _ e => group_setGroup_ne _ x e) (hset g x h) hoff
  | quarantine g w _ hp =>
    refine forall_group_set (P := fun k (y : Group) => s.activeBank.present k = false → y.state = .off) g
      (group_changeGroup_self _ g _) (fun _ e => group_changeGroup_ne _ _ e) (fun habs => ?_) hoff
    rw [present_params hms, habs] at hp
    cases hp
  | elapse n => exact fun g => by rw [group_elapse]; exact hoff g
  | line l x _ => simpa [State.group] using hoff
  | _ => exact hoff

theorem Moves.absentLaw {s t : State} (h : Moves s t) (hs : AbsentLaw s) : AbsentLaw t := h.keep Move.absentLaw hs

theorem AbsentOff.driveEntry {s : State} (h : AbsentOff s) : AbsentLaw (driveEntry s) := by
  refine (moves_driveGroups s).absentLaw fun _ => ?_
  rw [(driveStart_fields s).1]
  exact h

theorem AbsentOff.parkedEntry {s : State} (h : AbsentOff s) : AbsentLaw (parkedEntry s) :=
  ((moves_parkedGroups s).1.trans (moves_parkedGroups s).2).absentLaw fun _ => h

theorem group_clearAbsentGroup_self (s : State) (g : GroupId) :
    (clearAbsentGroup s g).group g = if s.activeBank.present g then s.group g else offChannel (s.group g) := by
  unfold clearAbsentGroup
  split
  · rfl
  · rw [group_setStorm, group_enterOff_self]
    rfl

theorem group_clearAbsentGroup_ne (s : State) (g h : GroupId) (hne : h ≠ g) : (clearAbsentGroup s g).group h = s.group h := by
  unfold clearAbsentGroup
  split
  · rfl
  · rw [group_setStorm, group_enterOff_ne s hne]

theorem WakeFrame.activeBank {s t : State} (h : WakeFrame s t) : t.activeBank = s.activeBank := by
  rw [State.activeBank, h.keeps.store]
  rfl

/-- R36, R99: the absent groups are switched off, the present ones stay. -/
theorem group_clearAbsent (s : State) (g : GroupId) :
    (allGroups.foldl clearAbsentGroup s).group g = if s.activeBank.present g then s.group g else offChannel (s.group g) := by
  obtain ⟨u, hu, hg, he⟩ := group_foldl (f := clearAbsentGroup) (K := WakeFrame s) group_clearAbsentGroup_ne
    (fun t k ht => ht.trans (wakeFrame_clearAbsentGroup t k)) allGroups allGroups_nodup s (.refl s) g (mem_allGroups g)
  rw [he, group_clearAbsentGroup_self, hg, hu.activeBank]

theorem absentOff_clearAbsent (s : State) : AbsentOff (allGroups.foldl clearAbsentGroup s) := by
  intro g h
  rw [(foldl_frame WakeFrame.refl WakeFrame.trans wakeFrame_clearAbsentGroup allGroups s).activeBank] at h
  rw [group_clearAbsent, h]
  rfl

theorem state_startLinger (g h : GroupId) (n : Nat) (s : State) : ((startLinger g n s).group h).state = (s.group h).state := by
  unfold startLinger
  split
  · by_cases e : h = g
    · subst e
      rw [group_setGroup_self]
    · rw [group_setGroup_ne s _ e]
  · rfl

theorem absentOff_startFallbackLinger (s : State) (g : GroupId) (hs : AbsentOff s) : AbsentOff (startFallbackLinger s g) := by
  refine hs.of_same (groupFrame_startFallbackLinger s g).wake.activeBank fun h => ?_
  unfold startFallbackLinger
  split
  · exact state_startLinger _ _ _ _
  · rfl

theorem absentOff_firstSwapStart (s : State) : AbsentOff (firstSwapStart s) :=
  List.foldlRecOn allGroups _ (absentOff_clearAbsent _) fun t ht g _ => absentOff_startFallbackLinger t g ht

/-- The active bank's bytes change with the roles alone (R33). -/
theorem tableMove_activeBank {c : Instr} {s t : State} (h : TableMove c s t) : t.activeBank = s.activeBank := by
  cases h with
  | write args a _ =>
    rcases actWriteTable_cases a s with h | ⟨x, -, h⟩ <;> rw [h]
    unfold State.activeBank
    dsimp only
    split <;> exact setStandbyBank_active _ _
  | copied _ _ => exact setStandbyBank_active _ _
  | _ => rfl

theorem tableMove_mode {c : Instr} {s t : State} (h : TableMove c s t) : t.mode = s.mode := by
  cases h with
  | write args a _ => rw [actWriteTable_frame]
  | _ => rfl

theorem law_absent : Law AbsentLaw where
  move := Move.absentLaw
  table {c s t} h hs := by
    obtain ⟨-, -, hg, -⟩ := tableMove_local h
    unfold AbsentLaw State.group
    rw [tableMove_mode h, tableMove_activeBank h, hg]
    exact hs
  swap {s} _ _ _ := by
    unfold takeSwap
    dsimp only
    split
    · have hf : AbsentLaw (allGroups.foldl clearAbsentGroup (exchangeBanks s).sync) := fun _ => absentOff_clearAbsent _
      unfold laterSwap
      dsimp only
      split
      · exact (moves_foldl (moves_changeForced _) _ _).absentLaw hf
      · exact hf
      · exact hf
    · rw [firstSwap_eq]
      split
      · exact (absentOff_firstSwapStart _).driveEntry
      · exact (absentOff_firstSwapStart _).parkedEntry
  settle {s} _ _ hs := by
    rw [settleInterval]
    unfold State.announce
    dsimp only
    split
    · exact (moves_exhaust _).absentLaw hs
    · exact hs
  report {s} v hs := by
    rcases takeReport_cases s v with h | ⟨n, -, -, h⟩ <;> rw [h]
    · exact hs
    · unfold State.announce
      dsimp only
      split
      · exact (moves_exhaust _).absentLaw hs
      · exact hs
  edge {s} hs := by
    have hl : AbsentLaw (s.setLine .ign (lineEdge s.lines.ign)) := hs
    unfold ignEdgeTaken
    split
    · exact (moves_quietWake _ _ _ _).absentLaw hl
    · rename_i hm _
      exact AbsentOff.parkedEntry (hl (by rw [hm]; simp))
    · rename_i hm _
      exact AbsentOff.driveEntry (hl (by rw [hm]; simp))
    · exact hl
    · exact hl
  powerOn pins _ := (moves_startUp pins).absentLaw fun h => absurd rfl h

/-- Settles O13: only present groups leave OFF, and a swap switches off those that the new table does not present. -/
theorem stepKeepsAbsentLaw : Obligations.StepKeepsAbsentLaw := fun _ _ hs h => law_absent.step (fun _ _ => id) hs h

/-! ### Mode and IGN, and the timers of PARKED -/

/-- The accounting timer runs exactly in PARKED, and the mode time is in range (R106, R113). -/
def ClocksSound (s : State) : Prop := (s.charge.timer.isSome = true ↔ s.mode.mode = .parked) ∧ s.mode.modeTime ≤ 4294967295

/-- A move starts no accounting timer and stops none, and starts no park-settle timer. -/
theorem Move.timers {s t : State} (h : Move s t) :
    t.charge.timer.isSome = s.charge.timer.isSome ∧ (t.mode.parkSettle.isSome = true → s.mode.parkSettle.isSome = true) ∧
    (s.mode.modeTime ≤ 4294967295 → t.mode.modeTime ≤ 4294967295) := by
  cases h with
  | clock time left park hp ht => exact ⟨rfl, hp, ht⟩
  | elapse n => exact ⟨by simp [State.elapse, passTimer], by simp [State.elapse, passTimer], id⟩
  | line l x => exact ⟨by simp, by simp, by simp⟩
  | _ => exact ⟨rfl, id, id⟩

theorem Move.clocksSound {s t : State} (h : Move s t) (hs : ClocksSound s) : ClocksSound t := by
  obtain ⟨ht, -, hn⟩ := h.timers
  exact ⟨by rw [ht, h.still.mode]; exact hs.1, hn hs.2⟩

theorem Move.modeLaw {s t : State} (h : Move s t) (hs : ModeLaw s) : ModeLaw t := by
  obtain ⟨hd, hp, hset, ht, hn⟩ := hs
  have hc := h.clocksSound ⟨ht, hn⟩
  refine ⟨?_, ?_, fun hps => ?_, hc⟩
  · rw [h.still.mode, h.still.ign]
    exact hd
  · rw [h.still.mode, h.still.ign]
    exact hp
  · rw [h.still.mode]
    exact hset (h.timers.2.1 hps)

theorem Moves.modeLaw {s t : State} (h : Moves s t) (hs : ModeLaw s) : ModeLaw t := h.keep Move.modeLaw hs

theorem ModeLaw.of_same {s t : State} (hm : t.mode = s.mode) (hi : t.lines.ign.level = s.lines.ign.level)
    (ht : t.charge.timer.isSome = s.charge.timer.isSome) (hs : ModeLaw s) : ModeLaw t := by
  unfold ModeLaw
  rwa [hm, hi, ht]

/-- R104, R122: a DRIVE entry with IGN high stops the timers of PARKED. -/
theorem modeLaw_driveEntry {s : State} (hi : s.lines.ign.level = true) (hc : ClocksSound s) : ModeLaw (driveEntry s) := by
  have hstart : (driveStart s).charge.timer = none := by
    rw [(driveStart_fields s).2]
    split
    · unfold finalSettlement
      split
      · rfl
      · exact ‹_›
    · rename_i hm
      exact Option.not_isSome_iff_eq_none.mp fun h => hm (hc.1.mp h)
  refine (moves_driveGroups s).modeLaw ?_
  unfold ModeLaw
  rw [hstart, (driveStart_fields s).1]
  simp [hi]

/-- R105: a PARKED entry with IGN low starts them. -/
theorem modeLaw_parkedEntry {s : State} (hi : s.lines.ign.level = false) : ModeLaw (parkedEntry s) := by
  refine ((moves_parkedGroups s).1.trans (moves_parkedGroups s).2).modeLaw ⟨fun h => (by cases h), fun _ => hi, fun _ => rfl, ?_, ?_⟩
  · exact iff_of_true (by rw [show (parkedStart s).charge.timer = some 1000 from (parkAccount_fields _ _).2.2.2]; rfl) rfl
  · exact Nat.zero_le 4294967295

theorem exchangeBanks_timer (s : State) : (exchangeBanks s).charge.timer = s.charge.timer := by
  simp only [exchangeBanks]
  rw [relevel_frame]
  rfl

theorem reportAccount_timer (v : Nat) (a : ChargeAccount) : (reportAccount v a).timer = a.timer :=
  (reportMoves_reportAccount v a).timer

theorem law_mode : Law ModeLaw where
  move := Move.modeLaw
  table h hs := by
    have hm := tableMove_mode h
    cases h with
    | write args a _ =>
      rw [actWriteTable_frame]
      exact hs
    | _ => exact hs
  swap {s} _ _ hs := by
    have he : ModeLaw (exchangeBanks s) := .of_same (s := s) rfl rfl (by rw [exchangeBanks_timer]) hs
    unfold takeSwap
    dsimp only
    split
    · exact (moves_laterSwap _ _).modeLaw he
    · have hf : ModeLaw (firstSwapStart (exchangeBanks s)) := (moves_firstSwapStart _).modeLaw he
      rw [firstSwap_eq]
      split
      · exact modeLaw_driveEntry ‹_› hf.2.2.2
      · exact modeLaw_parkedEntry (by simp_all)
  settle {s} hm ht hs := hs.of_same (mode_announce _ _) (by rw [settleInterval, (keeps_announce _ _).lines])
    (by rw [settleInterval, charge_announce, ht]; rfl)
  report {s} v hs := by
    rcases takeReport_cases s v with h | ⟨n, -, -, h⟩ <;> rw [h]
    · exact hs
    · exact hs.of_same (mode_announce _ _) (by rw [(keeps_announce _ _).lines]) (by rw [charge_announce, reportAccount_timer])
  edge {s} hs := by
    obtain ⟨hd, hp, hset, ht, hn⟩ := hs
    unfold ignEdgeTaken
    split
    · rename_i hm
      refine (moves_quietWake _ _ _ _).modeLaw ⟨fun h => ?_, fun h => ?_, hset, ht, hn⟩
      · rw [hm] at h
        cases h
      · rw [hm] at h
        cases h
    · exact modeLaw_parkedEntry ‹_›
    · exact modeLaw_driveEntry ‹_› ⟨ht, hn⟩
    · exact ⟨fun _ => ‹_›, fun h => by simp_all, hset, ht, hn⟩
    · exact ⟨fun h => by simp_all, fun _ => ‹_›, hset, ht, hn⟩
  powerOn pins _ := (moves_startUp pins).modeLaw
    ⟨fun h => (by cases h), fun h => (by cases h), fun h => (by cases h), iff_of_false (fun h => by cases h) (fun h => by cases h),
      Nat.zero_le 4294967295⟩

/-! ### Storm records -/

/-- The law of one group's storm record, in PARKED and outside it (R131 to R134). -/
structure StormSound (limit : Nat) (parked : Bool) (r : StormRecord) (x : Group) : Prop where
  count : r.count ≤ limit
  clear : parked = false → r = StormRecord.atPowerOn ∧ x.state ≠ .quarantined
  window : r.count = 0 → r.window = none
  closed : x.state = .quarantined → r.window = none
  timer : r.quarantine.isSome = true → x.state = .quarantined

/-- The law of a group's storm record in a state. -/
def State.stormSound (s : State) (g : GroupId) : Prop :=
  StormSound s.activeBank.stormLimit (s.mode.mode == .parked) (s.stormOf g) (s.group g)

theorem stormLaw_iff (s : State) : StormLaw s ↔ ∀ g, s.stormSound g := by
  constructor
  · rintro ⟨hc, hclear, hrest⟩ g
    exact ⟨hc g, fun hm => hclear (by simpa using hm) g, (hrest g).1, (hrest g).2.1, (hrest g).2.2⟩
  · intro h
    exact ⟨fun g => (h g).count, fun hm g => (h g).clear (by simpa using hm), fun g => ⟨(h g).window, (h g).closed, (h g).timer⟩⟩

/-- A channel that changes as transitions may. -/
theorem StormSound.change {limit : Nat} {parked : Bool} {s : State} {g : GroupId} {x : Group} (hc : Change s g x)
    (h : StormSound limit parked (s.stormOf g) (s.group g)) : StormSound limit parked (s.stormOf g) x where
  count := h.count
  clear hp := ⟨(h.clear hp).1, fun hq => (h.clear hp).2 (hc.enter hq)⟩
  window := h.window
  closed hq := h.closed (hc.enter hq)
  timer hq := by
    by_contra hx
    rw [hc.leave (h.timer hq) hx] at hq
    cases hq

/-- A law of all groups and their storm records under the change of one of each. -/
theorem stormSound_set {limit : Nat} {parked : Bool} {s t : State} (g : GroupId)
    (hne : ∀ k, k ≠ g → t.stormOf k = s.stormOf k ∧ t.group k = s.group k) (hg : StormSound limit parked (t.stormOf g) (t.group g))
    (hs : ∀ k, StormSound limit parked (s.stormOf k) (s.group k)) : ∀ k, StormSound limit parked (t.stormOf k) (t.group k) := by
  intro k
  by_cases e : k = g
  · subst e
    exact hg
  · rw [(hne k e).1, (hne k e).2]
    exact hs k

theorem Move.stormSound {s t : State} (h : Move s t) (hs : ∀ g, s.stormSound g) : ∀ g, t.stormSound g := by
  unfold State.stormSound at *
  rw [h.still.activeBank, h.still.mode]
  have hrec : ∀ (g : GroupId) (r : StormRecord), StormSound s.activeBank.stormLimit (s.mode.mode == .parked) r (s.group g) →
      ∀ k, StormSound s.activeBank.stormLimit (s.mode.mode == .parked) ((s.setStorm g r).stormOf k) ((s.setStorm g r).group k) :=
    fun g r hr => stormSound_set g (fun k e => ⟨stormOf_setStorm_ne s r e, rfl⟩) (by rwa [stormOf_setStorm_self]) hs
  cases h with
  | change g x h =>
    refine stormSound_set (s := s) g (fun k e => ⟨rfl, group_changeGroup_ne s x e⟩) ?_ hs
    rw [group_changeGroup_self]
    exact StormSound.change (s := s) h (hs g)
  | adjust g x _ h =>
    refine stormSound_set (s := s) g (fun k e => ⟨rfl, group_setGroup_ne s x e⟩) ?_ hs
    rw [group_setGroup_self]
    exact StormSound.change (s := s) h (hs g)
  | countStorm g ms hm hlt hq =>
    refine hrec g _ ⟨hlt, fun hp => ?_, fun h0 => absurd h0 (Nat.succ_ne_zero _), fun h => absurd h hq, (hs g).timer⟩
    simp [hm] at hp
  | clearStorm g =>
    refine hrec g _ ⟨Nat.zero_le _, fun hp => ⟨rfl, ((hs g).clear hp).2⟩, fun _ => rfl, fun _ => rfl, fun h => ?_⟩
    cases h
  | closeWindow g =>
    refine hrec g _ ⟨Nat.zero_le _, fun hp => ⟨?_, ((hs g).clear hp).2⟩, fun _ => rfl, fun _ => rfl, (hs g).timer⟩
    rw [((hs g).clear hp).1]
    rfl
  | quarantine g w hm hp =>
    refine stormSound_set (s := s) g (fun k e => ⟨stormOf_setStorm_ne s _ e, group_changeGroup_ne _ _ e⟩) ?_ hs
    rw [stormOf_changeGroup, stormOf_setStorm_self, group_changeGroup_self]
    refine ⟨(hs g).count, fun hp => ?_, fun _ => rfl, fun _ => rfl, fun _ => rfl⟩
    simp [hm] at hp
  | elapse n =>
    intro g
    obtain ⟨hc, hclear, hw, hcl, ht⟩ := hs g
    rw [group_elapse, stormOf_elapse]
    refine ⟨hc, fun hp => ⟨?_, (hclear hp).2⟩, fun h0 => ?_, fun hq => ?_, fun hq => ht ?_⟩
    · rw [(hclear hp).1]
      rfl
    · simp [stormPass, passTimer, hw h0]
    · simp [stormPass, passTimer, hcl hq]
    · simpa [stormPass, passTimer] using hq
  | line l x => simpa [State.stormOf, State.group] using hs
  | _ => exact hs

theorem Moves.stormSound {s t : State} (h : Moves s t) (hs : ∀ g, s.stormSound g) : ∀ g, t.stormSound g :=
  h.keep (L := fun u => ∀ g, u.stormSound g) Move.stormSound hs

/-- R134: outside PARKED no group becomes QUARANTINED. -/
theorem Move.notQuarantined {s t : State} (h : Move s t) {g : GroupId} (hs : s.mode.mode ≠ .parked ∧ (s.group g).state ≠ .quarantined) :
    t.mode.mode ≠ .parked ∧ (t.group g).state ≠ .quarantined := by
  obtain ⟨hm, hq⟩ := hs
  refine ⟨h.still.mode ▸ hm, ?_⟩
  have hset : ∀ (u : State) (k : GroupId) (x : Group), u.group k = x → (∀ j, j ≠ k → u.group j = s.group j) → Change s k x →
      (u.group g).state ≠ .quarantined := by
    intro u k x hk hne hc
    by_cases e : g = k
    · subst e
      rw [hk]
      exact fun h => hq (hc.enter h)
    · rw [hne g e]
      exact hq
  cases h with
  | change k x h => exact hset _ k x (group_changeGroup_self s k x) (fun _ e => group_changeGroup_ne s x e) h
  | adjust k x _ h => exact hset _ k x (group_setGroup_self s k x) (fun _ e => group_setGroup_ne s x e) h
  | quarantine k w hp => exact absurd hp hm
  | elapse n => rwa [group_elapse]
  | line l x => simpa [State.group] using hq
  | _ => exact hq

theorem state_driveEntryGroup_ne_quarantined {s : State} (g : GroupId) (hm : s.mode.mode ≠ .parked) :
    ((driveEntryGroup s g).group g).state ≠ .quarantined := by
  have key : ∀ t : State, t.mode.mode ≠ .parked ∧ (t.group g).state ≠ .quarantined →
      ((if (t.params g).driveForced then driveForceGroup g t else t).group g).state ≠ .quarantined := by
    intro t ht
    split
    · exact ((moves_driveForceGroup g t).keep (L := fun u => u.mode.mode ≠ .parked ∧ (u.group g).state ≠ .quarantined)
        (fun hm => hm.notQuarantined) ht).2
    · exact ht.2
  unfold driveEntryGroup
  dsimp only
  apply key
  split
  · exact ⟨hm, by rw [group_enterOff_self]; simp [groupOff]⟩
  · exact ⟨hm, by rw [group_enterOff_self]; simp [groupOff]⟩
  all_goals exact ⟨hm, by simp [*]⟩

/-- R139: a DRIVE entry clears every storm record. -/
theorem storm_driveEntry (s : State) : (driveEntry s).storm = tabGroups (fun _ => StormRecord.atPowerOn) := by
  have hstart : (driveStart s).storm = tabGroups (fun _ => StormRecord.atPowerOn) := by rw [(driveStart_fields s).1]
  rw [driveEntry_eq]
  have hm : (driveStart s).mode.mode ≠ .parked := by
    rw [(driveStart_fields s).1]
    simp
  have key := List.foldlRecOn (motive := fun t : State => t.mode.mode ≠ .parked ∧ t.storm = (driveStart s).storm) allGroups
    driveEntryGroup ⟨hm, rfl⟩ (fun t ht g _ => by
      have hf := groupFrame_driveEntryGroup t g ht.1
      exact ⟨by rw [hf.mode]; exact ht.1, by rw [hf.storm]; exact ht.2⟩)
  rw [key.2, hstart]

/-- After a DRIVE entry the storm records are clear and no group is QUARANTINED, whatever held before. -/
theorem stormSound_driveEntry (s : State) (g : GroupId) : (driveEntry s).stormSound g := by
  have hm : (driveStart s).mode.mode ≠ .parked := by
    rw [(driveStart_fields s).1]
    simp
  obtain ⟨u, hu, -, he⟩ := group_foldl (f := driveEntryGroup) (K := fun t => t.mode.mode ≠ .parked)
    (fun t k h hne => group_driveEntryGroup_ne t k h hne)
    (fun t k ht => by rw [(groupFrame_driveEntryGroup t k ht).mode]; exact ht) allGroups allGroups_nodup _ hm g (mem_allGroups g)
  have hstorm : (driveEntry s).stormOf g = StormRecord.atPowerOn := by rw [State.stormOf, storm_driveEntry, tabGroups_get]
  unfold State.stormSound
  rw [hstorm, driveEntry_eq, he]
  exact ⟨Nat.zero_le _, fun _ => ⟨rfl, state_driveEntryGroup_ne_quarantined g hu⟩, fun _ => rfl, fun _ => rfl, fun h => (by cases h)⟩

/-- R139: a PARKED entry clears counts and windows. -/
theorem stormSound_parkedEntry {s : State} (hs : ∀ g, s.stormSound g) : ∀ g, (parkedEntry s).stormSound g := by
  refine ((moves_parkedGroups s).1.trans (moves_parkedGroups s).2).stormSound fun g => ?_
  have hstorm : (parkedStart s).stormOf g = { s.stormOf g with count := 0, window := none } := by
    simp [parkedStart, State.stormOf]
  unfold State.stormSound
  rw [hstorm]
  exact ⟨Nat.zero_le _, fun h => (by cases h), fun _ => rfl, fun _ => rfl, (hs g).timer⟩

theorem stormLimit_pos (m : Memory) : 1 ≤ m.stormLimit := by
  simp only [Memory.stormLimit, clamp]
  omega

/-- R34: storm counts above the new limit are set to it. -/
theorem stormSound_exchangeBanks {s : State} (hs : ∀ g, s.stormSound g) (g : GroupId) : (exchangeBanks s).stormSound g := by
  have hlim := stormLimit_pos s.store.standbyBank
  have hbank : (exchangeBanks s).activeBank = s.store.standbyBank := exchange_active s.store
  have hstorm : (exchangeBanks s).stormOf g =
      { s.stormOf g with count := min (s.stormOf g).count s.store.standbyBank.stormLimit } := by
    rw [← hbank]
    simp [exchangeBanks, State.stormOf, State.activeBank]
  obtain ⟨-, hclear, hw, hcl, ht⟩ := hs g
  unfold State.stormSound
  rw [hstorm, hbank]
  refine ⟨min_le_right _ _, fun hp => ⟨?_, (hclear hp).2⟩, fun h0 => hw ?_, hcl, ht⟩
  · rw [(hclear hp).1]
    simp [StormRecord.atPowerOn]
  · dsimp only at h0
    omega

theorem law_storm : Law (fun s => ∀ g, s.stormSound g) where
  move := Move.stormSound
  table {c s t} h hs := by
    have hm := tableMove_mode h
    have hb := tableMove_activeBank h
    obtain ⟨-, -, hg, -⟩ := tableMove_local h
    have hst : t.storm = s.storm := by
      cases h with
      | write args a _ => rw [actWriteTable_frame]
      | _ => rfl
    intro g
    unfold State.stormSound State.stormOf State.group
    rw [hm, hb, hg, hst]
    exact hs g
  swap {s} _ _ hs := by
    have he := stormSound_exchangeBanks hs
    unfold takeSwap
    dsimp only
    split
    · exact (moves_laterSwap _ _).stormSound he
    · have hf : ∀ g, (firstSwapStart (exchangeBanks s)).stormSound g := (moves_firstSwapStart _).stormSound he
      rw [firstSwap_eq]
      split
      · exact stormSound_driveEntry _
      · exact stormSound_parkedEntry hf
  settle {s} _ _ hs := by
    rw [settleInterval]
    unfold State.announce
    dsimp only
    split
    · exact (moves_exhaust _).stormSound hs
    · exact hs
  report {s} v hs := by
    rcases takeReport_cases s v with h | ⟨n, -, -, h⟩ <;> rw [h]
    · exact hs
    · unfold State.announce
      dsimp only
      split
      · exact (moves_exhaust _).stormSound hs
      · exact hs
  edge {s} hs := by
    unfold ignEdgeTaken
    split
    · exact (moves_quietWake _ _ _ _).stormSound hs
    · exact stormSound_parkedEntry hs
    · exact stormSound_driveEntry _
    · exact hs
    · exact hs
  powerOn pins _ := (moves_startUp pins).stormSound fun g => by
    unfold State.stormSound
    have hg : (State.atPowerOn pins).group g = Group.atPowerOn := by simp [State.atPowerOn, State.group]
    have hr : (State.atPowerOn pins).stormOf g = StormRecord.atPowerOn := by simp [State.atPowerOn, State.stormOf]
    rw [hg, hr]
    exact ⟨Nat.zero_le _, fun _ => ⟨rfl, by simp [Group.atPowerOn]⟩, fun _ => rfl, fun _ => rfl, fun h => (by cases h)⟩

/-- Settles O15: mode and timers change together, and a group enters and leaves QUARANTINED with its storm record. -/
theorem stepKeepsModeAndStormLaw : Obligations.StepKeepsModeAndStormLaw := fun s t h =>
  ⟨fun hs => law_mode.step (fun _ _ => id) hs h,
    fun hs => (stormLaw_iff t).mpr (law_storm.step (fun _ _ => id) ((stormLaw_iff s).mp hs) h)⟩

end Sys2Proof.Machine
end

section
/-! What each command can change: the queue of commands, the mode, the rule store and the budget (R30, R32, R33, R37, R38, R101, R112,
R114), and the laws after reset. -/

namespace Sys2Proof.Machine

/-! ### Steps -/

/-- Settles O1: the queue's first case of `step`. -/
theorem stepTakesFrontCommand : Obligations.StepTakesFrontCommand := by
  intro c rest s h
  rw [step, h]

/-- Settles O2: the queue's empty case of `step`, and the two cases of an idle step. -/
theorem emptyQueueStepTakesDueEventOrTime : Obligations.EmptyQueueStepTakesDueEventOrTime := by
  intro s h
  have hstep : step s = idleStep s := by rw [step, h]
  rw [hstep, idleStep]
  exact ⟨fun c hc => by rw [hc], fun hn => by rw [hn]⟩

/-- Every command answers a next state (log 3). -/
theorem exec_total (c : Instr) (s : State) : ∃ t, exec c s = .next t := by
  have two : ∀ (b : Prop) [Decidable b] (u v : State), ∃ t, (if b then .next u else .next v : Result) = .next t := by
    intro b _ u v
    split
    · exact ⟨u, rfl⟩
    · exact ⟨v, rfl⟩
  cases c with
  | dataFrameReceived | receptionError | remoteRequestFrame | txAttemptStart | busOffRecovery | powerFault => exact two _ _ _
  | powerGoodLost g => exact two _ _ _
  | unknownCommand data =>
    cases data with
    | nil => exact ⟨_, rfl⟩
    | cons x rest => exact two _ _ _
  | gpiEdge => simp only [exec, execGpiEdge]; split <;> exact ⟨_, rfl⟩
  | ignEdge => simp only [exec, execIgnEdge]; split <;> exact ⟨_, rfl⟩
  | svcEdge => simp only [exec, execSvcEdge]; split <;> exact ⟨_, rfl⟩
  | attemptAcknowledged => simp only [exec, execAttemptAcknowledged]; split <;> exact ⟨_, rfl⟩
  | attemptNotAcknowledged => simp only [exec, execAttemptNotAcknowledged]; split <;> exact ⟨_, rfl⟩
  | attemptError => simp only [exec, execAttemptError]; split <;> exact ⟨_, rfl⟩
  | arbitrationLost => simp only [exec, execArbitrationLost]; split <;> exact ⟨_, rfl⟩
  | holdRelease => simp only [exec, execHoldRelease]; split <;> exact ⟨_, rfl⟩
  | holdExpiry => simp only [exec, execHoldExpiry]; split <;> exact ⟨_, rfl⟩
  | mgmtLingerExpiry => simp only [exec, execMgmtLingerExpiry]; split <;> exact ⟨_, rfl⟩
  | powerGoodAsserted => simp only [exec, execPowerGoodAsserted]; split <;> exact ⟨_, rfl⟩
  | powerGoodDelayExpiry => simp only [exec, execPowerGoodDelayExpiry]; split <;> exact ⟨_, rfl⟩
  | powerGoodTimeout => simp only [exec, execPowerGoodTimeout]; split <;> exact ⟨_, rfl⟩
  | settleExpiry => simp only [exec, execSettleExpiry]; split <;> exact ⟨_, rfl⟩
  | lingerExpiry => simp only [exec, execLingerExpiry]; split <;> exact ⟨_, rfl⟩
  | drainExpiry => simp only [exec, execDrainExpiry]; split <;> exact ⟨_, rfl⟩
  | settlement => simp only [exec, execSettlement]; split <;> exact ⟨_, rfl⟩
  | windowExpiry => simp only [exec, execWindowExpiry]; split <;> exact ⟨_, rfl⟩
  | quarantineExpiry => simp only [exec, execQuarantineExpiry]; split <;> exact ⟨_, rfl⟩
  | parkSettleExpiry => simp only [exec, execParkSettleExpiry]; split <;> exact ⟨_, rfl⟩
  | verificationComplete => simp only [exec, execVerificationComplete]; split <;> exact ⟨_, rfl⟩
  | copyComplete => simp only [exec, execCopyComplete]; split <;> exact ⟨_, rfl⟩
  | _ => exact ⟨_, rfl⟩

/-- The queue of commands is not the part's. -/
theorem law_pending (q : List Instr) : Law (fun s => s.pending = q) where
  move h hs := h.still.pending.trans hs
  table h hs := by
    cases h with
    | write args a _ =>
      rw [actWriteTable_frame]
      exact hs
    | _ => exact hs
  swap _ _ hs := (takeSwap_keeps _).pending.trans hs
  settle _ _ hs := (keeps_announce _ _).pending.trans hs
  report v hs := (reportKeeps_takeReport _ v).keeps.pending.trans hs
  edge hs := (ignEdgeTaken_keeps _).pending.trans hs
  powerOn _ hs := hs

/-- Settles O3: no arm is without a next state, and no move touches the queue. -/
theorem everyCommandCompletesAndKeepsQueue : Obligations.EveryCommandCompletesAndKeepsQueue := by
  intro c s
  obtain ⟨t, h⟩ := exec_total c s
  exact ⟨t, h, (law_pending s.pending).exec h rfl⟩

/-! ### Mode, rule store and budget -/

/-- What the classifier's taking of a frame can change. -/
theorem classifyKeeps_takeFrame (p : PortId) (s : State) : ClassifyKeeps s (s.takeFrame p) := by
  unfold State.takeFrame
  split
  · have h : TrafficFrame s (s.setPort p { s.port p with waiting := none }) := rfl
    exact h.classify.trans (classifyKeeps_classifyFrame p _ _)
  · exact (TrafficFrame.refl s).classify

/-- The state in which a request's table move stands. -/
theorem still_taken {s u : State} (h : u = s ∨ u = beginRequest s) : Still s u ∧ u.lines = s.lines := by
  rcases h with rfl | rfl
  · exact ⟨.refl u, rfl⟩
  · exact ⟨(moves_beginRequest s).still, rfl⟩

/-- R103: what a debounced IGN edge does to the mode. -/
theorem ignEdgeTaken_change (s : State) (h : (ignEdgeTaken s).mode.mode ≠ s.mode.mode) :
    (s.mode.mode = .drive ∧ (ignEdgeTaken s).mode.mode = .parked ∧ s.lines.ign.level = false) ∨
    (s.mode.mode = .parked ∧ (ignEdgeTaken s).mode.mode = .drive ∧ s.lines.ign.level = true) := by
  unfold ignEdgeTaken at h ⊢
  split at h
  · exact absurd (congrArg (·.mode) (wakeFrame_quietWake _ _ _ _).mode) h
  · rename_i hm hl
    exact .inl ⟨hm, congrArg (·.mode) (parkedEntry_mode s), hl⟩
  · rename_i hm hl
    exact .inr ⟨hm, congrArg (·.mode) (driveEntry_mode s), hl⟩
  · exact absurd rfl h
  · exact absurd rfl h

theorem ignEdgeTaken_straps (s : State) :
    (ignEdgeTaken s).mode.ma1 = s.mode.ma1 ∧ (ignEdgeTaken s).mode.ma0 = s.mode.ma0 ∧ (ignEdgeTaken s).mode.fb = s.mode.fb := by
  unfold ignEdgeTaken
  split
  · rw [(wakeFrame_quietWake s _ _ _).mode]
    exact ⟨rfl, rfl, rfl⟩
  · rw [parkedEntry_mode]
    exact ⟨rfl, rfl, rfl⟩
  · rw [driveEntry_mode]
    exact ⟨rfl, rfl, rfl⟩
  · exact ⟨rfl, rfl, rfl⟩
  · exact ⟨rfl, rfl, rfl⟩

theorem takeSwap_straps (s : State) :
    (takeSwap s).mode.ma1 = s.mode.ma1 ∧ (takeSwap s).mode.ma0 = s.mode.ma0 ∧ (takeSwap s).mode.fb = s.mode.fb := by
  by_cases hc : s.mode.configured = true
  · rw [takeSwap_mode_of_configured hc]
    exact ⟨rfl, rfl, rfl⟩
  · rw [takeSwap_mode_of_first (by simpa using hc)]
    exact ⟨rfl, rfl, rfl⟩

/-- Mode, strap levels and `configured` stay. -/
structure ModeKept (s t : State) : Prop where
  mode : t.mode.mode = s.mode.mode
  configured : t.mode.configured = s.mode.configured
  straps : t.mode.ma1 = s.mode.ma1 ∧ t.mode.ma0 = s.mode.ma0 ∧ t.mode.fb = s.mode.fb

theorem ModeKept.of_eq {s t : State} (h : t.mode = s.mode) : ModeKept s t := by
  constructor <;> rw [h]
  exact ⟨rfl, rfl, rfl⟩

theorem ModeKept.trans {s t u : State} (h : ModeKept s t) (k : ModeKept t u) : ModeKept s u :=
  ⟨k.mode.trans h.mode, k.configured.trans h.configured, k.straps.1.trans h.straps.1, k.straps.2.1.trans h.straps.2.1,
    k.straps.2.2.trans h.straps.2.2⟩

theorem ModeKept.elim {s t : State} (h : ModeKept s t) {P : Prop} :
    (t.mode.ma1 = s.mode.ma1 ∧ t.mode.ma0 = s.mode.ma0 ∧ t.mode.fb = s.mode.fb) ∧
    (s.mode.configured = true → t.mode.configured = true) ∧ (t.mode.mode ≠ s.mode.mode → P) :=
  ⟨h.straps, fun hc => h.configured.trans hc, fun hm => absurd h.mode hm⟩

theorem Still.modeKept {s t : State} (h : Still s t) : ModeKept s t := ⟨h.mode, h.configured, h.straps⟩

/-- R112: every effect but an IGN edge, a swap and a power-on keeps the mode. -/
theorem Effect.modeKept {c : Instr} {s t : State} (h : Effect c s t) (hpower : ∀ pins, c ≠ .powerOn pins) (hign : c ≠ .ignEdge)
    (hswap : ∀ args, c = .swap args → s.mode.configured = true) : ModeKept s t := by
  cases h with
  | moves _ h => exact h.still.modeKept
  | table hu hv ht => exact (still_taken hu).1.modeKept.trans ((ModeKept.of_eq (tableMove_mode hv)).trans ht.still.modeKept)
  | swap args _ _ ht =>
    have hb := (moves_beginRequest s).still
    have hc : (beginRequest s).mode.configured = true := hb.configured.trans (hswap args rfl)
    exact hb.modeKept.trans ((ModeKept.of_eq (takeSwap_mode_of_configured hc)).trans ht.still.modeKept)
  | @settlement s left _ _ =>
    have he : ModeKept s (s.elapse left) := ⟨rfl, rfl, rfl, rfl, rfl⟩
    exact he.trans (.of_eq (mode_announce _ _))
  | classification p s => exact .of_eq (classifyKeeps_takeFrame p s).mode
  | ignEdge _ _ => exact absurd rfl hign
  | powerOn pins _ => exact absurd rfl (hpower pins)

/-- Settles O4: an effect other than an IGN edge or a first swap keeps the mode, and those two follow the debounced IGN level. -/
theorem modeChangesOnlyByItsEvents : Obligations.ModeChangesOnlyByItsEvents := by
  rintro c r s t rfl hexec hpower
  have he := exec_effect hexec
  generalize r.before c = s at he ⊢
  by_cases hign : c = .ignEdge
  · subst hign
    cases he with
    | moves _ h => exact h.still.modeKept.elim
    | table _ hv _ => cases hv
    | ignEdge _ left =>
      have hi := ignEdgeTaken_mode (takeEdge .ign left s)
      refine ⟨ignEdgeTaken_straps (takeEdge .ign left s), fun hc => hi.2.trans hc, fun hm => ?_⟩
      rw [(ignEdgeTaken_keeps _).lines]
      rcases ignEdgeTaken_change (takeEdge .ign left s) hm with ⟨h1, h2, h3⟩ | ⟨h1, h2, h3⟩
      · exact .inl ⟨rfl, h1, h2, h3⟩
      · exact .inr (.inl ⟨rfl, h1, h2, h3⟩)
  · by_cases hfirst : ∀ args, c = .swap args → s.mode.configured = true
    · exact (he.modeKept hpower hign hfirst).elim
    · push Not at hfirst
      obtain ⟨args, rfl, hc⟩ := hfirst
      cases he with
      | moves _ h => exact h.still.modeKept.elim
      | table _ hv _ => cases hv
      | swap _ _ _ ht =>
        have hb := (moves_beginRequest s).still
        have hm := takeSwap_mode_of_first (hb.configured.trans (by simpa using hc))
        have hs := takeSwap_straps (beginRequest s)
        have hk := ht.still
        refine ⟨⟨hk.straps.1.trans (hs.1.trans hb.straps.1), hk.straps.2.1.trans (hs.2.1.trans hb.straps.2.1),
          hk.straps.2.2.trans (hs.2.2.trans hb.straps.2.2)⟩, fun h => absurd h hc, fun _ => .inr (.inr ⟨args, rfl, by simpa using hc, ?_, ?_⟩)⟩
        · exact hk.configured.trans (by rw [hm])
        · rw [hk.mode, hk.ign, hm, (takeSwap_keeps _).lines]
          rfl

theorem setStandbyBank_rest (x : RuleStore) (m : Memory) :
    (x.setStandbyBank m).lockPages = x.lockPages ∧ (x.setStandbyBank m).verifyFault = x.verifyFault ∧
    (x.setStandbyBank m).standby = x.standby ∧ (x.setStandbyBank m).activeIsOne = x.activeIsOne := by
  unfold RuleStore.setStandbyBank
  split <;> exact ⟨rfl, rfl, rfl, rfl⟩

/-- How a command may change the rule store between two states (R30, R32, R33, R37, R38). -/
def StoreChange (c : Instr) (s t : State) : Prop :=
  ((∀ args : List Byte, c ≠ .swap args) → t.activeBank = s.activeBank) ∧
  ((∀ args : List Byte, c ≠ .swap args) → t.store.standbyBank ≠ s.store.standbyBank →
    (∃ args : List Byte, c = .writeTable args ∧ s.agent.state = .idle) ∨ (c = .copyComplete ∧ s.agent.state = .copying)) ∧
  (∀ args : List Byte, c = .swap args →
    t.store.bank0 = s.store.bank0 ∧ t.store.bank1 = s.store.bank1 ∧
    (t.store.activeIsOne ≠ s.store.activeIsOne → s.agent.state = .idle ∧ s.store.standby = .verified)) ∧
  (t.store.lockPages ≠ s.store.lockPages → (∃ args : List Byte, c = .lock args) ∧ s.lines.svc.level = true) ∧
  (t.store.verifyFault ≠ s.store.verifyFault → (∃ args : List Byte, c = .verify args) ∨ c = .verificationComplete)

theorem StoreChange.of_same {c : Instr} {s t : State} (h : t.store = s.store) : StoreChange c s t := by
  unfold StoreChange State.activeBank
  rw [h]
  exact ⟨fun _ => rfl, fun _ hn => absurd rfl hn, fun _ _ => ⟨rfl, rfl, fun hn => absurd rfl hn⟩, fun hn => absurd rfl hn,
    fun hn => absurd rfl hn⟩

theorem TableMove.storeChange {c : Instr} {s t : State} (h : TableMove c s t) : StoreChange c s t := by
  refine ⟨fun _ => tableMove_activeBank h, fun _ => ?_, fun args hc => ?_, ?_, ?_⟩
  · cases h with
    | write args _ _ hi => exact fun _ => .inl ⟨args, rfl, hi⟩
    | copied _ hc => exact fun _ => .inr ⟨rfl, hc⟩
    | _ => exact fun hn => absurd rfl hn
  · subst hc
    cases h
  · cases h with
    | write args a _ _ =>
      refine fun hn => absurd ?_ hn
      rcases actWriteTable_cases a s with he | ⟨x, -, he⟩ <;> rw [he]
      dsimp only
      split <;> exact (setStandbyBank_rest _ _).1
    | lock args _ _ hl => exact fun _ => ⟨⟨args, rfl⟩, hl⟩
    | copied _ _ => exact fun hn => absurd (setStandbyBank_rest _ _).1 hn
    | _ => exact fun hn => absurd rfl hn
  · cases h with
    | write args a _ _ =>
      refine fun hn => absurd ?_ hn
      rcases actWriteTable_cases a s with he | ⟨x, -, he⟩ <;> rw [he]
      dsimp only
      split <;> exact (setStandbyBank_rest _ _).2.1
    | verify args _ _ => exact fun _ => .inl ⟨args, rfl⟩
    | verified _ _ => exact fun _ => .inr rfl
    | copied _ _ => exact fun hn => absurd (setStandbyBank_rest _ _).2.1 hn
    | _ => exact fun hn => absurd rfl hn

/-- A rule-store change seen from the states before and after the moves around it. -/
theorem StoreChange.around {c : Instr} {s u v t : State} (h : StoreChange c u v) (hu : u.store = s.store)
    (hagent : u.agent.state = s.agent.state) (hlines : u.lines = s.lines) (ht : t.store = v.store) : StoreChange c s t := by
  unfold StoreChange State.activeBank at h ⊢
  rw [← hu, ← hagent, ← hlines, ht]
  exact h

/-- Settles O5: the store is touched only by a table move and by a swap, which exchanges the roles of the banks. -/
theorem tableChangesOnlyByItsEvents : Obligations.TableChangesOnlyByItsEvents := by
  rintro c r s t rfl hexec hpower
  have he := exec_effect hexec
  generalize r.before c = s at he ⊢
  change StoreChange c s t
  cases he with
  | moves _ h => exact .of_same h.still.store
  | table hu hv ht =>
    obtain ⟨hs, hl⟩ := still_taken hu
    exact hv.storeChange.around hs.store hs.agent hl ht.still.store
  | swap args hidle hver ht =>
    have hstore : t.store = { s.store.exchange with standby := .dirty } := ht.still.store.trans (takeSwap_keeps _).store
    rw [StoreChange, hstore]
    exact ⟨fun hn => absurd rfl (hn args), fun hn => absurd rfl (hn args), fun _ _ => ⟨rfl, rfl, fun _ => ⟨hidle, hver⟩⟩,
      fun hn => absurd rfl hn, fun hn => absurd rfl hn⟩
  | settlement _ _ => exact .of_same (keeps_announce _ _).store
  | classification p _ => exact .of_same (classifyKeeps_takeFrame p s).keeps.store
  | ignEdge _ left => exact .of_same (ignEdgeTaken_keeps _).store
  | powerOn pins _ => exact absurd rfl (hpower pins)

/-- P_active, B_rem, spent and cut stay. -/
structure BudgetKept (s t : State) : Prop where
  pActive : t.charge.pActive = s.charge.pActive
  bRem : t.charge.bRem = s.charge.bRem
  spent : t.charge.spent = s.charge.spent
  cut : t.charge.cut = s.charge.cut

theorem BudgetKept.trans {s t u : State} (h : BudgetKept s t) (k : BudgetKept t u) : BudgetKept s u :=
  ⟨k.pActive.trans h.pActive, k.bRem.trans h.bRem, k.spent.trans h.spent, k.cut.trans h.cut⟩

theorem Still.budgetKept {s t : State} (h : Still s t) : BudgetKept s t := ⟨h.pActive, h.bRem, h.spent, h.cut⟩

theorem BudgetKept.of_same {s t : State} (h : t.charge = s.charge) : BudgetKept s t := by
  constructor <;> rw [h]

theorem budgetKept_tableMove {c : Instr} {s t : State} (h : TableMove c s t) : BudgetKept s t := by
  cases h with
  | write args a _ =>
    rw [actWriteTable_frame]
    exact ⟨rfl, rfl, rfl, rfl⟩
  | _ => exact ⟨rfl, rfl, rfl, rfl⟩

theorem budgetKept_laterSwap {s : State} (h : s.mode.configured = true) : BudgetKept s (takeSwap s) := by
  have hx : BudgetKept s (exchangeBanks s) := by
    constructor <;> (dsimp only [exchangeBanks]; rw [relevel_frame]; rfl)
  rw [takeSwap, if_pos h]
  have hw := (wakeFrame_laterSwap s.activeBank (exchangeBanks s)).charge
  exact hx.trans (by constructor <;> rw [hw])

/-- Settles O6: outside mode entries only a settlement and a battery report move charge. -/
theorem budgetMovesOnlyByItsEvents : Obligations.BudgetMovesOnlyByItsEvents := by
  rintro c r s t rfl hexec hpower hign hswap
  have he := exec_effect hexec
  generalize r.before c = s at he hswap ⊢
  have kept (h : BudgetKept s t) :
      t.charge.pActive = s.charge.pActive ∧
      (c = .settlement → t.charge.cut = s.charge.cut ∧ t.charge.bRem ≤ s.charge.bRem ∧
        t.charge.bRem + t.charge.spent = s.charge.bRem + s.charge.spent) ∧
      (∀ p : PortId, c = .classification p → t.charge.spent = s.charge.spent ∧ t.charge.bRem ≤ s.charge.bRem ∧
        t.charge.bRem + t.charge.cut = s.charge.bRem + s.charge.cut) ∧
      (c ≠ .settlement → (∀ p : PortId, c ≠ .classification p) →
        t.charge.bRem = s.charge.bRem ∧ t.charge.spent = s.charge.spent ∧ t.charge.cut = s.charge.cut) := by
    rw [h.pActive, h.bRem, h.spent, h.cut]
    exact ⟨rfl, fun _ => ⟨rfl, le_rfl, rfl⟩, fun _ _ => ⟨rfl, le_rfl, rfl⟩, fun _ _ => ⟨rfl, rfl, rfl⟩⟩
  cases he with
  | moves _ h => exact kept h.still.budgetKept
  | table hu hv ht => exact kept ((still_taken hu).1.budgetKept.trans ((budgetKept_tableMove hv).trans ht.still.budgetKept))
  | swap args _ _ ht =>
    have hb := (moves_beginRequest s).still
    have hc : (beginRequest s).mode.configured = true := hb.configured.trans (hswap.resolve_left fun h => h args rfl)
    exact kept (hb.budgetKept.trans ((budgetKept_laterSwap hc).trans ht.still.budgetKept))
  | @settlement _ left _ _ =>
    have hm := settleMoves_settleAccount (s.elapse left).activeBank Config.intervalMs (s.elapse left).charge
    rw [settleInterval, charge_announce]
    exact ⟨hm.pActive, fun _ => ⟨hm.cut, hm.bRem, hm.sum⟩, fun _ hc => (by cases hc), fun hc => absurd rfl hc⟩
  | classification p _ =>
    have hm := (classifyKeeps_takeFrame p s).charge
    exact ⟨hm.pActive, fun hc => (by cases hc), fun _ _ => ⟨hm.spent, hm.bRem, hm.sum⟩, fun _ hc => absurd rfl (hc p)⟩
  | ignEdge _ _ => exact absurd rfl hign
  | powerOn pins _ => exact absurd rfl (hpower pins)

/-! ### Reset -/

section
variable (pins : PowerOnPins)

theorem port_atPowerOn (p : PortId) : (State.atPowerOn pins).port p = Port.atPowerOn := by simp [State.port, State.atPowerOn]

theorem group_atPowerOn (g : GroupId) : (State.atPowerOn pins).group g = Group.atPowerOn := by simp [State.group, State.atPowerOn]

theorem stormOf_atPowerOn (g : GroupId) : (State.atPowerOn pins).stormOf g = StormRecord.atPowerOn := by
  simp [State.stormOf, State.atPowerOn]

end

theorem counter_atPowerOn (c : Counter) : portCounter Port.atPowerOn c = 0 := by cases c <;> rfl

theorem chargeLaw_reset : ChargeLaw State.reset := by
  refine ⟨rfl, Nat.zero_le 4294967295, Nat.zero_le _, fun g => ?_, Nat.zero_le _, Nat.zero_le 4294967295, le_rfl, le_rfl, le_rfl⟩
  simp [State.reset, State.atPowerOn, ChargeAccount.atPowerOn]

theorem portLaw_reset (p : PortId) : PortLaw State.reset p := by
  unfold PortLaw
  rw [State.reset, port_atPowerOn, awake_atPowerOn]
  simp [Port.atPowerOn]

theorem stormLaw_reset : StormLaw State.reset := by
  unfold StormLaw
  simp only [State.reset, stormOf_atPowerOn, group_atPowerOn]
  simp [StormRecord.atPowerOn, Group.atPowerOn]

/-- Settles O16: the reset state is the one after power-on with all inputs low. -/
theorem resetMeetsEveryLaw : Obligations.ResetMeetsEveryLaw := by
  refine ⟨⟨portLaw_reset, .inr rfl⟩, fun p c => ?_, ⟨Nat.zero_le _, Nat.zero_le _, fun h => absurd rfl h⟩,
    ⟨Nat.zero_le _, fun e he => (by cases he)⟩, reset_banks_wf, ?_, fun g => ?_, fun h => (by cases h), fun h => absurd rfl h,
    chargeLaw_reset, ⟨fun h => (by cases h), fun _ => rfl⟩, ?_, stormLaw_reset⟩
  · rw [State.counter, State.reset, port_atPowerOn, counter_atPowerOn]
    exact Nat.zero_le _
  · exact ⟨fun h => (by cases h), fun h => (by cases h), ⟨fun _ => rfl, fun _ => rfl⟩, fun _ => rfl, fun h => (by cases h)⟩
  · rw [State.reset, group_atPowerOn]
    exact groupLaw_atPowerOn
  · exact ⟨fun h => (by cases h), fun h => (by cases h), fun h => (by cases h), ⟨fun h => (by cases h), fun h => (by cases h)⟩,
      Nat.zero_le 4294967295⟩

end Sys2Proof.Machine
end

section
/-! What happens at the ports: reception, attempts, error counters, offers and what `sync` does (R1 to R12, R39, R69, R146). -/

namespace Sys2Proof.Machine

/-! ### One port changes -/

theorem counted_of_counters {c : Counter} {n : Nat} {x y : Port} (h : y.counters = (countBy c n x).counters) : Counted c n x y :=
  (counted_countBy c n x).congr h.symm

/-- A command that replaces one port answers a state that differs there alone. -/
theorem setPort_answers {c : Instr} {s : State} {p : PortId} {y : Port} (h : exec c s = .next (s.setPort p y)) :
    ∃ t : State, exec c s = .next t ∧ OnlyPort p s t ∧ t.port p = y :=
  ⟨_, h, onlyPort_setPort p s y, port_setPort_self s p y⟩

/-! ### Reception -/

theorem takeWaiting_eq_takeFrame {p : PortId} {s : State} (h : p ≠ 0 ∨ (s.takeFrame p).agent.request = none) :
    s.takeWaiting p = s.takeFrame p := by
  unfold State.takeWaiting State.takeRequestWaiting
  split
  · rw [h.resolve_left (not_not.mpr ‹_›)]
  · rfl

theorem takeWaiting_eq_takeRequest {s : State} {d : List Byte} (h : (s.takeFrame 0).agent.request = some d) :
    s.takeWaiting 0 = takeRequest d (s.takeFrame 0) := by
  rw [State.takeWaiting, if_pos rfl, State.takeRequestWaiting, h]

theorem recordedFrame_of_length {ident : Ident} {dlc : BitVec 4} {data : List Byte} (h : data.length = min dlc.toNat 8) :
    recordedFrame ident dlc data = { ident := ident, data := data } := by
  rw [recordedFrame, List.take_of_length_le (by rw [h]; exact le_rfl)]

theorem exec_dataFrameReceived {e : BusEnd} {s : State} (h : portBusOff (s.port e.port) = false) {ident : Ident} {dlc : BitVec 4}
    {data : List Byte} :
    exec (.dataFrameReceived e ident dlc data) s =
      .next (receiveData e.port (recordedFrame ident dlc data) e.flags (s.takeWaiting e.port)) := by
  rw [exec, execDataFrameReceived, if_neg (by simp [h])]

theorem diverts_iff (s : State) (p : PortId) (ident : Ident) : s.diverts p ident = true ↔ p = 0 ∧ ident = .std s.requestId := by
  simp [State.diverts]

/-- The reception of a frame that is left for the classifier (R4). -/
theorem receiveData_classified {p : PortId} {f : Frame} {s : State} (flags : FlagErrors) (h : ¬(p = 0 ∧ f.ident = .std s.requestId)) :
    receiveData p f flags s = s.setPort p { portReceivedGood flags (countBy .rxOk 1 (s.port p)) with waiting := some f } := by
  rw [receiveData, if_neg (mt (diverts_iff s p f.ident).mp h)]

/-- The reception of a request frame, left for the agent (R4). -/
theorem receiveData_diverted {p : PortId} {f : Frame} {s : State} (flags : FlagErrors) (h : p = 0 ∧ f.ident = .std s.requestId) :
    receiveData p f flags s =
      { s.setPort p (portReceivedGood flags (countBy .rxOk 1 (s.port p))) with agent := { s.agent with request := some f.data } } := by
  rw [receiveData, if_pos ((diverts_iff s p f.ident).mpr h)]

theorem exec_receptionError {e : BusEnd} {s : State} (h : portBusOff (s.port e.port) = false) :
    exec (.receptionError e) s = .next (s.setPort e.port (portReceivedBad e.flags (countBy .rxErr 1 (s.port e.port)))) := by
  rw [exec, execReceptionError, if_neg (by simp [h])]

theorem exec_remoteRequestFrame {e : BusEnd} {s : State} (h : portBusOff (s.port e.port) = false) (ident : Ident) :
    exec (.remoteRequestFrame e ident) s =
      .next ((s.takeWaiting e.port).setPort e.port
        (portReceivedGood e.flags (countBy .rxRemote 1 ((s.takeWaiting e.port).port e.port)))) := by
  rw [exec, execRemoteRequestFrame, if_neg (by simp [h])]

/-- What a counted frame on the bus leaves of a port. -/
def FrameCounted (c : Counter) (x y : Port) : Prop :=
  Counted c 1 x y ∧ y = { x with counters := y.counters, rxErrors := y.rxErrors }

theorem frameCounted_good {c : Counter} {flags : FlagErrors} {x y : Port} (h : y = portReceivedGood flags (countBy c 1 x)) :
    FrameCounted c x y := by
  subst h
  exact ⟨counted_of_counters rfl, rfl⟩

theorem frameCounted_bad {c : Counter} {flags : FlagErrors} {x y : Port} (h : y = portReceivedBad flags (countBy c 1 x)) :
    FrameCounted c x y := by
  subst h
  exact ⟨counted_of_counters rfl, rfl⟩

/-- Settles O24: what waits is taken first, then the frame replaces one port and, when diverted, the agent's request. -/
theorem receivedFramesAreCounted : Obligations.ReceivedFramesAreCounted := by
  rintro e r s hbus rfl
  refine ⟨takeWaiting_waiting e.port r, takeWaiting_of_quiet, ⟨_, exec_classification e.port r, takeWaiting_eq_takeFrame, ?_⟩,
    fun ident dlc data hl => ⟨fun hd => ?_, fun hd => ?_⟩, ?_, fun ident => ?_⟩
  · intro d h0 hr hl
    rw [h0] at hr ⊢
    rw [exec_request d _ hl, State.requestArrives, if_pos hr, takeWaiting_eq_takeRequest hr]
  · refine ⟨_, exec_dataFrameReceived hbus, ?_⟩
    rw [recordedFrame_of_length hl, receiveData_classified (f := ⟨ident, data⟩) e.flags hd]
    refine ⟨onlyPort_setPort _ _ _, ?_, ?_⟩ <;> rw [port_setPort_self]
    · exact counted_of_counters rfl
    · rfl
  · refine ⟨_, exec_dataFrameReceived hbus, ?_⟩
    rw [recordedFrame_of_length hl, receiveData_diverted (f := ⟨ident, data⟩) e.flags hd]
    exact ⟨rfl, fun q hq => port_setPort_ne (r.takeWaiting e.port) _ hq,
      frameCounted_good (flags := e.flags) (port_setPort_self (r.takeWaiting e.port) e.port _)⟩
  · exact ⟨_, exec_receptionError hbus, onlyPort_setPort _ _ _, frameCounted_bad (flags := e.flags) (port_setPort_self _ _ _)⟩
  · exact ⟨_, exec_remoteRequestFrame hbus ident, onlyPort_setPort _ _ _,
      frameCounted_good (flags := e.flags) (port_setPort_self _ _ _)⟩

/-! ### Attempts -/

theorem mayStart_iff (x : Port) :
    mayStart x = true ↔ x.state = .active ∧ portBusOff x = false ∧ x.queue ≠ [] ∧ x.attempt = .idle := by
  simp [mayStart, and_assoc]

theorem exec_txAttemptStart {p : PortId} {s : State} (h : mayStart (s.port p) = true) :
    exec (.txAttemptStart p) s = .next (s.setPort p { s.port p with attempt := .head }) := if_pos h

/-- Settles O25: the two branches of the command. -/
theorem attemptStartsAtTheHead : Obligations.AttemptStartsAtTheHead := by
  intro p s
  refine ⟨fun h => setPort_answers (exec_txAttemptStart ((mayStart_iff _).mpr h)), fun h => if_neg (mt (mayStart_iff _).mp h)⟩

theorem exec_arbitrationLost {p : PortId} {s : State} (h : (s.port p).attempt ≠ .idle) :
    exec (.arbitrationLost p) s = .next (s.setPort p (attemptDropped (s.port p))) := by
  rw [exec, execArbitrationLost]
  split
  · exact absurd ‹_› h
  · rfl
  · rfl

theorem attemptDropped_head {x : Port} (h : x.attempt = .head) : attemptDropped x = { x with attempt := .idle } := by
  rw [attemptDropped, h]

theorem attemptDropped_completing {x : Port} {f : Frame} (h : x.attempt = .completing f) : attemptDropped x = completingLost x := by
  rw [attemptDropped, h]

/-- Settles O26: a loss puts the head's attempt aside, and starting anew restores the port. -/
theorem lostArbitrationIsNotCounted : Obligations.LostArbitrationIsNotCounted := by
  intro p s
  refine ⟨fun h => ?_, fun f h => ?_, fun h => ?_⟩
  · have hne : (s.port p).attempt ≠ .idle := by rw [h]; simp
    have hex := exec_arbitrationLost hne
    rw [attemptDropped_head h] at hex
    refine ⟨_, hex, onlyPort_setPort _ _ _, port_setPort_self _ _ _, fun ha hb hq => ?_, ?_⟩
    · have hstart := exec_txAttemptStart (p := p) (s := s.setPort p { s.port p with attempt := .idle })
        (by rw [port_setPort_self]; exact (mayStart_iff _).mpr ⟨ha, hb, hq, rfl⟩)
      rw [hstart, port_setPort_self, setPort_setPort]
      have hsame : { s.port p with attempt := .head } = s.port p := by rw [← h]
      rw [show ({ ({ s.port p with attempt := .idle } : Port) with attempt := .head } : Port) = s.port p from hsame, setPort_port]
    · intro flags ident dlc data hb hl hw hr hd
      set t := s.setPort p { s.port p with attempt := .idle } with ht
      have hpt : t.port p = { s.port p with attempt := .idle } := port_setPort_self _ _ _
      have hquiet : t.takeWaiting p = t := takeWaiting_of_quiet (by rw [hpt]; exact hw) hr
      refine ⟨_, exec_dataFrameReceived (e := ⟨p, flags⟩) (s := t) (by rw [hpt]; exact hb), ?_⟩
      dsimp only
      rw [hquiet, recordedFrame_of_length hl, receiveData_classified (s := t) (f := ⟨ident, data⟩) flags hd, port_setPort_self, hpt]
      exact ⟨rfl, rfl, rfl, rfl⟩
  · have hne : (s.port p).attempt ≠ .idle := by rw [h]; simp
    have hex := exec_arbitrationLost hne
    rw [attemptDropped_completing h] at hex
    refine ⟨_, hex, onlyPort_setPort _ _ _, ?_, ?_⟩ <;> rw [port_setPort_self]
    · exact counted_of_counters rfl
    · rfl
  · rw [exec, execArbitrationLost]
    simp only [h]

theorem exec_attemptAcknowledged {e : BusEnd} {s : State} (h : (s.port e.port).attempt ≠ .idle) :
    exec (.attemptAcknowledged e) s =
      .next (s.setPort e.port { attemptDelivered (s.port e.port) with txErrors := txErrorsAfterGood e.flags (s.port e.port) }) := by
  rw [exec, execAttemptAcknowledged]
  dsimp only
  split
  · exact absurd ‹_› h
  · rfl
  · rfl

theorem attemptDelivered_head {x : Port} (h : x.attempt = .head) : attemptDelivered x = headDelivered x := by
  rw [attemptDelivered, h]

theorem attemptDelivered_completing {x : Port} {f : Frame} (h : x.attempt = .completing f) :
    attemptDelivered x = { countBy .txOk 1 x with attempt := .idle } := by
  rw [attemptDelivered, h]

/-- Settles O27: the two kinds of attempt that an acknowledgement ends, and none. -/
theorem acknowledgedAttemptCountsTxOk : Obligations.AcknowledgedAttemptCountsTxOk := by
  intro p flags s
  refine ⟨fun h => ?_, fun f h => ?_, fun h => ?_⟩
  · have hne : (s.port p).attempt ≠ .idle := by rw [h]; simp
    refine ⟨_, exec_attemptAcknowledged (e := ⟨p, flags⟩) hne, onlyPort_setPort _ _ _, ?_, ?_⟩ <;> dsimp only <;>
      rw [port_setPort_self, attemptDelivered_head h]
    · exact counted_of_counters rfl
    · rfl
  · have hne : (s.port p).attempt ≠ .idle := by rw [h]; simp
    refine ⟨_, exec_attemptAcknowledged (e := ⟨p, flags⟩) hne, onlyPort_setPort _ _ _, ?_, ?_⟩ <;> dsimp only <;>
      rw [port_setPort_self, attemptDelivered_completing h]
    · exact counted_of_counters rfl
    · rfl
  · rw [exec, execAttemptAcknowledged]
    simp only [h]

theorem exec_attemptNotAcknowledged {e : SilentEnd} {s : State} (h : (s.port e.port).attempt ≠ .idle) :
    exec (.attemptNotAcknowledged e) s =
      .next (s.setPort e.port
        { attemptFailed (s.port e.port) with txErrors := txErrorsAfterSilence e.dominant e.flags (s.port e.port) }) := by
  rw [exec, execAttemptNotAcknowledged]
  dsimp only
  split
  · exact absurd ‹_› h
  · rfl
  · rfl

theorem exec_attemptError {e : ErrorEnd} {s : State} (h : (s.port e.port).attempt ≠ .idle) :
    exec (.attemptError e) s =
      .next (s.setPort e.port
        { (if errorCounts e.place (txErrorsAfterError e.place e.flags (s.port e.port)) then attemptFailed (s.port e.port)
            else attemptDropped (s.port e.port)) with
          txErrors := txErrorsAfterError e.place e.flags (s.port e.port) }) := by
  rw [exec, execAttemptError]
  dsimp only
  split
  · exact absurd ‹_› h
  · rfl
  · rfl

theorem attemptFailed_head {x : Port} (h : x.attempt = .head) : attemptFailed x = headFailed x := by
  rw [attemptFailed, h]

theorem attemptFailed_completing {x : Port} {f : Frame} (h : x.attempt = .completing f) : attemptFailed x = completingLost x := by
  rw [attemptFailed, h]

/-- A failed attempt of the head: its count rises, and at the eighth the frame is given up (R10). -/
theorem headFailed_fields (x : Port) (n : Nat) :
    (x.attempts + 1 < 8 → { headFailed x with txErrors := n } = { x with attempts := x.attempts + 1, attempt := .idle, txErrors := n }) ∧
    (8 ≤ x.attempts + 1 →
      Counted .txUndelivered 1 x { headFailed x with txErrors := n } ∧
      { headFailed x with txErrors := n } =
        { x with queue := x.queue.tail, attempts := 0, attempt := .idle, counters := (headFailed x).counters, txErrors := n }) := by
  unfold headFailed
  refine ⟨fun h => by rw [if_pos (show x.attempts + 1 < Config.attemptMax from h)], fun h => ?_⟩
  rw [if_neg (show ¬x.attempts + 1 < Config.attemptMax from Nat.not_lt.mpr h)]
  exact ⟨counted_of_counters rfl, rfl⟩

theorem completingLost_fields (x : Port) (n : Nat) :
    Counted .txUndelivered 1 x { completingLost x with txErrors := n } ∧
    { completingLost x with txErrors := n } =
      { x with attempt := .idle, counters := (completingLost x).counters, txErrors := n } :=
  ⟨counted_of_counters rfl, rfl⟩

theorem errorCounts_iff (place : ErrorPlace) (n : Nat) : errorCounts place n = true ↔ place = .beyondArbitration ∨ 255 < n := by
  simp only [errorCounts, Bool.or_eq_true, beq_iff_eq, decide_eq_true_eq]
  exact Iff.rfl

theorem portBusOff_iff (x : Port) : portBusOff x = true ↔ 255 < x.txErrors := by
  rw [portBusOff, decide_eq_true_eq]
  exact Iff.rfl

/-- Settles O28: both commands fail or drop the attempt, and whether an error counts is the test of log 24. -/
theorem failedAttemptIsRetriedSevenTimes : Obligations.FailedAttemptIsRetriedSevenTimes := by
  rintro p s c place flags dominant (rfl | rfl)
  · refine ⟨fun hne => ⟨_, exec_attemptNotAcknowledged (e := ⟨p, dominant, flags⟩) hne, onlyPort_setPort _ _ _, ?_⟩, fun h => ?_⟩
    · dsimp only
      rw [port_setPort_self]
      refine ⟨fun _ h => ?_, fun h => (by cases h), fun f h => ?_⟩
      · rw [attemptFailed_head h]
        exact headFailed_fields _ _
      · rw [attemptFailed_completing h]
        exact completingLost_fields _ _
    · rw [exec, execAttemptNotAcknowledged]
      simp only [h]
  · refine ⟨fun hne => ⟨_, exec_attemptError (e := ⟨p, place, flags⟩) hne, onlyPort_setPort _ _ _, ?_⟩, fun h => ?_⟩
    · dsimp only
      rw [port_setPort_self]
      set n := txErrorsAfterError place flags (s.port p) with hn
      refine ⟨fun hc h => ?_, fun _ hp hb h => ?_, fun f h => ?_⟩
      · have hcount : errorCounts place n = true := by
          rw [errorCounts_iff]
          rcases hc with hc | hc | hc
          · cases hc
          · exact .inl hc
          · exact .inr ((portBusOff_iff _).mp hc)
        rw [if_pos hcount, attemptFailed_head h]
        exact headFailed_fields _ _
      · have hcount : ¬errorCounts place n = true := by
          rw [errorCounts_iff, not_or]
          exact ⟨hp, fun h => absurd ((portBusOff_iff _).mpr h) (by rw [hb]; simp)⟩
        rw [if_neg hcount, attemptDropped_head h]
      · have hsame : (if errorCounts place n = true then attemptFailed (s.port p) else attemptDropped (s.port p)) =
            completingLost (s.port p) := by
          rw [attemptFailed_completing h, attemptDropped_completing h, ite_self]
        rw [hsame]
        exact completingLost_fields _ _
    · rw [exec, execAttemptError]
      simp only [h]

/-! ### Error counters and bus-off -/

theorem portErrorPassive_iff (x : Port) :
    portErrorPassive x = true ↔ x.txErrors ≤ 255 ∧ (127 < x.txErrors ∨ 127 < x.rxErrors) := by
  simp only [portErrorPassive, portBusOff, Bool.and_eq_true, Bool.not_eq_true', Bool.or_eq_true, decide_eq_true_eq,
    decide_eq_false_iff_not, Nat.not_lt]
  exact Iff.rfl

theorem transmitterFlagCount_eq (flags : FlagErrors) : transmitterFlagCount flags = 8 * (flags.again + flags.dominant) := by
  simp only [transmitterFlagCount, Config.txErrorStep, Config.flagErrorStep]
  omega

theorem receiverFlagCount_eq (flags : FlagErrors) : receiverFlagCount flags = flags.again + 8 * flags.dominant := by
  simp only [receiverFlagCount, Config.rxErrorStep, Config.flagErrorStep]
  omega

theorem txErrorsAfterSilence_eq (dominant : Bool) (flags : FlagErrors) (x : Port) :
    txErrorsAfterSilence dominant flags x =
      x.txErrors + (if portErrorPassive x = true ∧ dominant = false then 0 else 8) + 8 * (flags.again + flags.dominant) := by
  simp [txErrorsAfterSilence, transmitterFlagCount_eq, Config.txErrorStep]

theorem txErrorsAfterError_eq (place : ErrorPlace) (flags : FlagErrors) (x : Port) :
    txErrorsAfterError place flags x =
      x.txErrors + (if place = .arbitrationStuffBit then 0 else 8) + 8 * (flags.again + flags.dominant) := by
  cases place <;> simp [txErrorsAfterError, transmitterFlagCount_eq, Config.txErrorStep]

theorem rxErrorsAfterGood_cases (n : Nat) :
    (n ≤ 127 → rxErrorsAfterGood n = n - 1) ∧ (127 < n → 119 ≤ rxErrorsAfterGood n ∧ rxErrorsAfterGood n ≤ 127) := by
  have hr : Config.receiveErrorReturn.val ≤ 8 := Nat.le_of_lt_succ Config.receiveErrorReturn.isLt
  unfold rxErrorsAfterGood
  refine ⟨fun h => if_neg (show ¬Config.errorPassiveAbove < n from Nat.not_lt.mpr h), fun h => ?_⟩
  rw [if_pos (show Config.errorPassiveAbove < n from h)]
  omega

/-- The receive error count stops at 255; one that is below stays the least of the sum and that limit. -/
theorem satAdd_receive {a n : Nat} (h : a ≤ 255) : satAdd Config.receiveErrorMax a n = min 255 (a + n) := by
  simp only [satAdd, Config.receiveErrorMax]
  omega

theorem rxErrorsAfterGood_le {n : Nat} : rxErrorsAfterGood n ≤ 127 := by
  obtain ⟨hlow, hhigh⟩ := rxErrorsAfterGood_cases n
  rcases Nat.lt_or_ge 127 n with h | h
  · exact (hhigh h).2
  · rw [hlow h]
    omega

theorem rxErrors_portReceivedGood (flags : FlagErrors) (x : Port) :
    (portReceivedGood flags x).rxErrors = min 255 (rxErrorsAfterGood x.rxErrors + (flags.again + 8 * flags.dominant)) := by
  rw [← receiverFlagCount_eq, ← satAdd_receive (rxErrorsAfterGood_le.trans (by omega))]
  rfl

theorem rxErrors_receiveData (p : PortId) (f : Frame) (flags : FlagErrors) (s : State) :
    ((receiveData p f flags s).port p).rxErrors =
      min 255 (rxErrorsAfterGood (s.port p).rxErrors + (flags.again + 8 * flags.dominant)) := by
  have hgood := rxErrors_portReceivedGood flags (countBy .rxOk 1 (s.port p))
  rw [countBy_rxErrors] at hgood
  by_cases h : p = 0 ∧ f.ident = .std s.requestId
  · rw [receiveData_diverted flags h]
    exact (congrArg Port.rxErrors (port_setPort_self s p _)).trans hgood
  · rw [receiveData_classified flags h, port_setPort_self]
    exact hgood

/-- Settles O29: the counters of the commands, read off the port each writes. -/
theorem busOffPortIsSilentUntilRecovery : Obligations.BusOffPortIsSilentUntilRecovery := by
  refine ⟨fun x => ⟨portBusOff_iff x, portErrorPassive_iff x⟩, fun p flags s hne => ⟨?_, fun dominant => ?_, fun place => ?_⟩,
    fun e s u hbus hu => ⟨fun c hc => ?_, ?_⟩, fun p s => ⟨fun hbus => ?_, fun hbus => ?_⟩⟩
  · refine ⟨_, exec_attemptAcknowledged (e := ⟨p, flags⟩) hne, ?_⟩
    dsimp only
    rw [port_setPort_self, txErrorsAfterGood, transmitterFlagCount_eq]
  · refine ⟨_, exec_attemptNotAcknowledged (e := ⟨p, dominant, flags⟩) hne, ?_⟩
    dsimp only
    rw [port_setPort_self, txErrorsAfterSilence_eq]
  · refine ⟨_, exec_attemptError (e := ⟨p, place, flags⟩) hne, ?_⟩
    dsimp only
    rw [port_setPort_self, txErrorsAfterError_eq]
  · obtain ⟨hlow, hhigh⟩ := rxErrorsAfterGood_cases (u.port e.port).rxErrors
    subst hu
    rcases hc with ⟨ident, dlc, data, rfl⟩ | ⟨ident, rfl⟩
    · exact ⟨_, _, exec_dataFrameReceived hbus, hlow, hhigh, rxErrors_receiveData _ _ _ _⟩
    · refine ⟨_, _, exec_remoteRequestFrame hbus ident, hlow, hhigh, ?_⟩
      rw [port_setPort_self, rxErrors_portReceivedGood]
      rfl
  · refine ⟨_, exec_receptionError hbus, fun h => ?_⟩
    rw [port_setPort_self]
    change satAdd _ _ _ = _
    rw [countBy_rxErrors, satAdd_receive h, receiverFlagCount_eq, Config.rxErrorStep, Nat.add_assoc]
  · refine ⟨fun _ _ _ _ => if_pos hbus, fun _ => if_pos hbus, fun _ _ => if_pos hbus,
      if_neg (by rw [mayStart_iff, hbus]; simp), ?_⟩
    refine ⟨_, if_pos hbus, onlyPort_setPort _ _ _, ?_⟩
    rw [port_setPort_self]
    exact ⟨rfl, rfl, rfl⟩
  · exact if_neg (by rw [hbus]; simp)

/-! ### Offers -/

theorem offerPort_room {f : Frame} {x : Port} (hs : x.state = .active) (h : x.queue.length < 16) :
    offerPort f x = { x with queue := x.queue ++ [f] } := by
  rw [offerPort, hs]
  exact (if_pos h).trans (by rw [← hs])

theorem offerPort_full {f : Frame} {x : Port} (hs : x.state = .active) (h : 16 ≤ x.queue.length) :
    offerPort f x = countBy .dropQfull 1 x := by
  rw [offerPort, hs]
  exact if_neg (Nat.not_lt.mpr h)

theorem offerPort_asleep {f : Frame} {x : Port} (hs : x.state = .listen) : offerPort f x = countBy .dropAsleep 1 x := by
  rw [offerPort, hs]

theorem port_offer_self (s : State) (p : PortId) (f : Frame) : (s.offer p f).port p = offerPort f (s.port p) :=
  port_setPort_self s p _

theorem onlyPort_offer (s : State) (p : PortId) (f : Frame) : OnlyPort p s (s.offer p f) := onlyPort_setPort p s _

theorem onlyPort_count (s : State) (p : PortId) (c : Counter) : OnlyPort p s (s.count p c) := onlyPort_setPort p s _

/-- What counting one occurrence leaves of a port. -/
theorem counted_one (c : Counter) {x y : Port} (h : y = countBy c 1 x) :
    Counted c 1 x y ∧ y = { x with counters := y.counters } := by
  subst h
  exact ⟨counted_countBy c 1 x, rfl⟩

theorem holdFrame_room {p : PortId} {f : Frame} {rule : Option Nat} {s : State} (h : s.hold.length < 48) :
    s.holdFrame p f rule =
      { s with hold := s.hold ++ [{ frame := f, dest := p, remaining := s.activeBank.holdTime, rule := rule }] } := if_pos h

theorem holdFrame_full {p : PortId} {f : Frame} {rule : Option Nat} {s : State} (h : 48 ≤ s.hold.length) :
    s.holdFrame p f rule = s.count p .holdOverflow := if_neg (Nat.not_lt.mpr h)

/-- Settles O30: the cases of the two offers. -/
theorem offersFollowStateAndRoom : Obligations.OffersFollowStateAndRoom := by
  intro p f s
  rw [port_offer_self]
  refine ⟨onlyPort_offer s p f, offerPort_room, fun hs h => counted_one _ (offerPort_full hs h), fun hs => counted_one _ (offerPort_asleep hs),
    fun rule => ⟨holdFrame_room, fun h => ?_⟩⟩
  rw [holdFrame_full h]
  exact ⟨onlyPort_count s p _, counted_one _ (port_setPort_self s p _)⟩

/-! ### Changes made known -/

theorem syncPort_kept {b : Bool} {x : Port} (h : b = true ∨ x.state = .listen) :
    (syncPort b x).queue = x.queue ∧ (syncPort b x).attempts = x.attempts ∧ (syncPort b x).attempt = x.attempt ∧
    portCounter (syncPort b x) .txUndelivered = portCounter x .txUndelivered := by
  unfold syncPort
  split
  · exact ⟨rfl, rfl, rfl, rfl⟩
  · simp_all
  · exact ⟨rfl, rfl, rfl, rfl⟩

theorem syncPort_flushed {x : Port} (h : x.state = .active) : syncPort false x = flushPort x := by
  unfold syncPort
  rw [h]

theorem flushPort_idle {x : Port} (h : x.attempt ≠ .head) :
    (flushPort x).attempt = x.attempt ∧ portCounter (flushPort x) .txUndelivered =
      max (portCounter x .txUndelivered) (min 65535 (portCounter x .txUndelivered + x.queue.length)) := by
  rw [← portCounter_countBy_self .txUndelivered x.queue.length x]
  unfold flushPort
  cases ha : x.attempt with
  | head => exact absurd ha h
  | idle => exact ⟨rfl, rfl⟩
  | completing f => exact ⟨rfl, rfl⟩

theorem flushPort_head {x : Port} {f : Frame} {rest : List Frame} (h : x.attempt = .head) (hq : x.queue = f :: rest) :
    (flushPort x).attempt = .completing f ∧ portCounter (flushPort x) .txUndelivered =
      max (portCounter x .txUndelivered) (min 65535 (portCounter x .txUndelivered + rest.length)) := by
  rw [← portCounter_countBy_self .txUndelivered rest.length x]
  unfold flushPort
  rw [h, hq]
  exact ⟨rfl, rfl⟩

/-- `sync` touches a port's HOLD_DISCARDED count besides what following its awakeness does. -/
theorem port_sync_discarded (s : State) (p : PortId) :
    ∃ n, s.sync.port p = countBy .holdDiscarded n (syncPort (s.awake p) (s.port p)) ∨ s.sync.port p = syncPort (s.awake p) (s.port p) := by
  rw [port_sync]
  split
  · exact ⟨0, .inr rfl⟩
  · exact ⟨_, .inl rfl⟩

/-- The items of a port, and the counters but HOLD_DISCARDED, that `sync` leaves are those of `syncPort`. -/
theorem port_sync_fields (s : State) (p : PortId) :
    (s.sync.port p).state = (syncPort (s.awake p) (s.port p)).state ∧ (s.sync.port p).queue = (syncPort (s.awake p) (s.port p)).queue ∧
    (s.sync.port p).attempts = (syncPort (s.awake p) (s.port p)).attempts ∧
    (s.sync.port p).attempt = (syncPort (s.awake p) (s.port p)).attempt ∧
    (s.sync.port p).waiting = (s.port p).waiting ∧ (s.sync.port p).txErrors = (s.port p).txErrors ∧
    (s.sync.port p).rxErrors = (s.port p).rxErrors ∧
    ∀ c : Counter, c ≠ .holdDiscarded → s.sync.counter p c = portCounter (syncPort (s.awake p) (s.port p)) c := by
  obtain ⟨hw, htx, hrx, -⟩ := syncPort_frame (s.awake p) (s.port p)
  unfold State.counter
  obtain ⟨n, h | h⟩ := port_sync_discarded s p <;> rw [h]
  · exact ⟨rfl, rfl, rfl, rfl, hw, htx, hrx, fun c hc => portCounter_countBy_ne n _ hc⟩
  · exact ⟨rfl, rfl, rfl, rfl, hw, htx, hrx, fun _ _ => rfl⟩

theorem port_sync_holdDiscarded (s : State) (p : PortId) :
    (s.prospects p = true → s.sync.counter p .holdDiscarded = s.counter p .holdDiscarded) ∧
    (s.prospects p = false → s.sync.counter p .holdDiscarded =
      max (s.counter p .holdDiscarded) (min 65535 (s.counter p .holdDiscarded + s.heldFor p))) := by
  obtain ⟨-, -, -, hc⟩ := syncPort_frame (s.awake p) (s.port p)
  have hd := hc .holdDiscarded (by simp)
  unfold State.counter
  rw [port_sync]
  refine ⟨fun h => by rw [if_pos h, hd], fun h => ?_⟩
  rw [if_neg (by rw [h]; simp), portCounter_countBy_self, hd]

/-- Settles O31: `sync` port by port. -/
theorem changesAreMadeKnownToPorts : Obligations.ChangesAreMadeKnownToPorts := by
  intro s
  refine ⟨rfl, fun p => ?_⟩
  obtain ⟨hstate, hqueue, hattempts, hattempt, hw, htx, hrx, hcount⟩ := port_sync_fields s p
  obtain ⟨hdisc, hlost⟩ := port_sync_holdDiscarded s p
  obtain ⟨-, -, -, hother⟩ := syncPort_frame (s.awake p) (s.port p)
  have htu := hcount .txUndelivered (by simp)
  refine ⟨port_sync_state s p, hw, htx, hrx, fun h => ?_, fun ha hs => ?_, hdisc, hlost,
    fun c hc hd => (hcount c hd).trans (hother c hc)⟩
  · obtain ⟨kq, kn, ka, kc⟩ := syncPort_kept h
    exact ⟨hqueue.trans kq, hattempts.trans kn, hattempt.trans ka, htu.trans kc⟩
  · have hf : syncPort (s.awake p) (s.port p) = flushPort (s.port p) := by rw [ha, syncPort_flushed hs]
    rw [hqueue, hattempts, hattempt, htu, hf]
    exact ⟨rfl, rfl, flushPort_idle, fun f rest => flushPort_head⟩

end Sys2Proof.Machine
end

section
/-! The classifier: the search and its working record, the matching of an entry, the condition codes, the routes of a frame, and the
battery reports (R15, R16, R40 to R56, R128, Tables 3-1 and 3-2). -/

namespace Sys2Proof.Machine

/-! ### The working record -/

theorem gather_rule (w : WorkingRecord) (l : List (Nat × RuleEntry)) :
    (gather w l).rule = w.rule.or (l.head?.map (fun x => x.1)) := by
  induction l generalizing w with
  | nil => simp
  | cons x rest ih => cases hw : w.rule <;> simp [ih, contribute, hw]

theorem gather_hold (w : WorkingRecord) (l : List (Nat × RuleEntry)) :
    (gather w l).hold = (w.hold || l.any (fun x => x.2.hold)) := by
  induction l generalizing w with
  | nil => simp
  | cons x rest ih => simp [ih, contribute, Bool.or_assoc]

theorem gather_forward (w : WorkingRecord) (l : List (Nat × RuleEntry)) (i : Nat) :
    (gather w l).forward.getLsbD i = (w.forward.getLsbD i || l.any (fun x => x.2.forward.getLsbD i)) := by
  induction l generalizing w with
  | nil => simp
  | cons x rest ih => simp [ih, contribute, Bool.or_assoc]

theorem gather_wake (w : WorkingRecord) (l : List (Nat × RuleEntry)) (i : Nat) :
    (gather w l).wake.getLsbD i = (w.wake.getLsbD i || l.any (fun x => x.2.wake.getLsbD i)) := by
  induction l generalizing w with
  | nil => simp
  | cons x rest ih => simp [ih, contribute, Bool.or_assoc]

theorem gather_reports (w : WorkingRecord) (l : List (Nat × RuleEntry)) :
    (gather w l).reports = w.reports ++ (l.filter (fun x => x.2.action == .report)).map (fun x => x.2.window) := by
  induction l generalizing w with
  | nil => simp
  | cons x rest ih => by_cases hr : x.2.action = .report <;> simp [ih, contribute, hr]

theorem lowerClass_ne_none (held : Option WakeClass) (c : WakeClass) : lowerClass held c ≠ none := by
  cases held <;> simp [lowerClass]

theorem gather_cls_eq_none (w : WorkingRecord) (l : List (Nat × RuleEntry)) :
    (gather w l).cls = none ↔ w.cls = none ∧ l = [] := by
  induction l generalizing w with
  | nil => simp
  | cons x rest ih => simp [ih, contribute, lowerClass_ne_none]

/-- A class that is held after an entry is the entry's own or the one held before, and at most both. -/
theorem lowerClass_eq_some {held : Option WakeClass} {c d : WakeClass} (h : lowerClass held c = some d) :
    (held = some d ∨ c = d) ∧ (∀ b, held = some b → d ≤ b) ∧ d ≤ c := by
  cases held with
  | none =>
    have hd : c = d := by simpa [lowerClass] using h
    exact ⟨.inr hd, fun b hb => (by cases hb), hd.ge⟩
  | some b =>
    have hd : min b c = d := by simpa [lowerClass] using h
    subst hd
    refine ⟨?_, fun a ha => ?_, min_le_right b c⟩
    · rcases min_choice b c with hm | hm
      · exact .inl (congrArg some hm.symm)
      · exact .inr hm.symm
    · obtain rfl : b = a := by simpa using ha
      exact min_le_left b c

/-- The class gathered is the lowest (R48). -/
theorem gather_cls_eq_some {w : WorkingRecord} {l : List (Nat × RuleEntry)} {c : WakeClass} (h : (gather w l).cls = some c) :
    (w.cls = some c ∨ ∃ x ∈ l, x.2.cls = c) ∧ (∀ b, w.cls = some b → c ≤ b) ∧ ∀ x ∈ l, c ≤ x.2.cls := by
  induction l generalizing w with
  | nil => exact ⟨.inl h, fun b hb => by rw [gather_nil, hb] at h; exact (Option.some.inj h).ge, fun x hx => (by cases hx)⟩
  | cons x rest ih =>
    rw [gather_cons] at h
    obtain ⟨hmem, hle, hall⟩ := ih h
    have hx : (contribute x.1 x.2 w).cls = lowerClass w.cls x.2.cls := rfl
    rw [hx] at hmem hle
    cases hc : lowerClass w.cls x.2.cls with
    | none => exact absurd hc (lowerClass_ne_none _ _)
    | some d =>
      obtain ⟨hfrom, hheld, hentry⟩ := lowerClass_eq_some hc
      have hcd : c ≤ d := hle d hc
      refine ⟨?_, fun b hb => hcd.trans (hheld b hb), ?_⟩
      · rcases hmem with hm | ⟨y, hy, hyc⟩
        · obtain rfl : d = c := by simpa [hc] using hm
          exact hfrom.imp id (fun he => ⟨x, by simp, he⟩)
        · exact .inr ⟨y, by simp [hy], hyc⟩
      · intro y hy
        rcases List.mem_cons.mp hy with rfl | hy
        · exact hcd.trans hentry
        · exact hall y hy

/-! ### Matching -/

/-- Two words agree under a mask exactly in the bits that it sets. -/
theorem xor_and_eq_zero_iff {w : Nat} (x y m : BitVec w) :
    (x ^^^ y) &&& m = 0 ↔ ∀ i : Fin w, m.getLsbD i = true → x.getLsbD i = y.getLsbD i := by
  constructor
  · intro h i hm
    have hb : ((x ^^^ y) &&& m).getLsbD i.val = false := (congrArg (fun z => z.getLsbD i.val) h).trans BitVec.getLsbD_zero
    rw [BitVec.getLsbD_and, BitVec.getLsbD_xor, hm, Bool.and_true] at hb
    exact bne_eq_false_iff_eq.mp hb
  · intro h
    refine BitVec.eq_of_getLsbD_eq fun i hi => ?_
    have hb := h ⟨i, hi⟩
    by_cases hm : m.getLsbD i = true
    · simp [hm, hb hm]
    · simp [hm]

theorem formatMask_std : ∀ i : Fin 29, (formatMask false).getLsbD i = decide (i.val < 11) := by decide

theorem identMatches_iff (e : RuleEntry) (i : Ident) :
    identMatches e i = true ↔ e.ext = identIsExt i ∧
      ∀ b : Fin 29, e.idMask.getLsbD b = true → (formatMask e.ext).getLsbD b = true → (identBits i).getLsbD b = e.id.getLsbD b := by
  have hm := xor_and_eq_zero_iff (identBits i) e.id (e.idMask &&& formatMask e.ext)
  rw [← BitVec.and_assoc] at hm
  simp only [identMatches, Bool.and_eq_true, beq_iff_eq]
  refine and_congr_right fun _ => hm.trans (forall_congr' fun b => ?_)
  rw [BitVec.getLsbD_and, Bool.and_eq_true, and_imp]

theorem identMatches_std (e : RuleEntry) (id : BitVec 11) :
    identMatches e (.std id) = true ↔
      e.ext = false ∧ ∀ b : Fin 11, e.idMask.getLsbD b = true → id.getLsbD b = e.id.getLsbD b := by
  rw [identMatches_iff]
  refine and_congr_right fun (he : e.ext = false) => ?_
  rw [he]
  constructor
  · intro h b hm
    have hb := h ⟨b.val, by omega⟩ hm (by rw [formatMask_std]; exact decide_eq_true b.isLt)
    rw [← hb, identBits, BitVec.getLsbD_setWidth, decide_eq_true (by omega : b.val < 29), Bool.true_and]
  · intro h b hm hf
    rw [formatMask_std, decide_eq_true_eq] at hf
    rw [← h ⟨b.val, hf⟩ hm, identBits, BitVec.getLsbD_setWidth, decide_eq_true b.isLt, Bool.true_and]

theorem identMatches_ext (e : RuleEntry) (id : BitVec 29) :
    identMatches e (.ext id) = true ↔
      e.ext = true ∧ ∀ b : Fin 29, e.idMask.getLsbD b = true → id.getLsbD b = e.id.getLsbD b := by
  rw [identMatches_iff]
  refine and_congr_right fun (he : e.ext = true) => forall_congr' fun b => imp_congr_right fun _ => ?_
  rw [he, formatMask, if_pos rfl, BitVec.getLsbD_allOnes, decide_eq_true b.isLt]
  exact ⟨fun h => h rfl, fun h _ => h⟩

/-- The bits of a window value: the second byte below, the first above. -/
theorem dataWord_getLsbD (data : List Byte) (o : Nat) (b : Fin 8) :
    (dataWord data o).getLsbD b = (data.getD (o + 1) 0).getLsbD b ∧
    (dataWord data o).getLsbD (8 + b.val) = (data.getD o 0).getLsbD b := by
  have hb := b.isLt
  unfold dataWord
  constructor
  · rw [BitVec.getLsbD_append, if_pos hb]
  · rw [BitVec.getLsbD_append, if_neg (by omega), Nat.add_sub_cancel_left]

theorem forall_fin16_iff {P : Nat → Prop} : (∀ i : Fin 16, P i) ↔ (∀ b : Fin 8, P (8 + b.val)) ∧ ∀ b : Fin 8, P b := by
  constructor
  · exact fun h => ⟨fun b => h ⟨8 + b.val, by omega⟩, fun b => h ⟨b.val, by omega⟩⟩
  · rintro ⟨hhigh, hlow⟩ i
    rcases Nat.lt_or_ge i.val 8 with hi | hi
    · exact hlow ⟨i.val, hi⟩
    · have hb := hhigh ⟨i.val - 8, by omega⟩
      rwa [show 8 + (i.val - 8) = i.val by omega] at hb

theorem windowMatches_iff (e : RuleEntry) (data : List Byte) :
    windowMatches e data = true ↔
      e.winMask = 0 ∨ (e.window + 2 ≤ data.length ∧
        (∀ b : Fin 8, e.winMask.getLsbD (8 + b.val) = true → (data.getD e.window 0).getLsbD b = e.winVal.getLsbD (8 + b.val)) ∧
        ∀ b : Fin 8, e.winMask.getLsbD b = true → (data.getD (e.window + 1) 0).getLsbD b = e.winVal.getLsbD b) := by
  have hm := (xor_and_eq_zero_iff (dataWord data e.window) e.winVal e.winMask).trans
    (forall_fin16_iff (P := fun i => e.winMask.getLsbD i = true → (dataWord data e.window).getLsbD i = e.winVal.getLsbD i))
  simp only [(dataWord_getLsbD data e.window _).1, (dataWord_getLsbD data e.window _).2] at hm
  simp only [windowMatches, Bool.or_eq_true, Bool.and_eq_true, beq_iff_eq, decide_eq_true_eq]
  exact or_congr_right (and_congr_right fun _ => hm)

theorem getLsbD_single {n : Nat} (p i : Fin n) : (1#n <<< p.val).getLsbD i = decide (i = p) := by
  have hi := i.isLt
  rw [BitVec.getLsbD_shiftLeft, decide_eq_true hi, Bool.true_and, BitVec.getLsbD_one]
  by_cases h : i = p
  · subst h
    simp; omega
  · have : i.val ≠ p.val := fun e => h (Fin.ext e)
    simp [h]
    omega

/-- The condition's reference set is the entry's forward set less the source port (R45). -/
theorem reference_eq {e : RuleEntry} {src : PortId} {ref : PortSet}
    (h : ∀ q : PortId, ref.getLsbD q = (e.forward.getLsbD q && q != src)) : e.forward &&& ~~~(1#5 <<< src.val) = ref := by
  refine BitVec.eq_of_getLsbD_eq fun i hi => ?_
  have hs := getLsbD_single src ⟨i, hi⟩
  have hq := h ⟨i, hi⟩
  simp only at hq hs
  rw [hq, BitVec.getLsbD_and, BitVec.getLsbD_not, hs, decide_eq_true hi, Bool.true_and]
  rfl

/-- Table 3-1: the tests of an entry. -/
theorem entryMatches_iff {s : State} {src : PortId} {f : Frame} {e : RuleEntry} {ref : PortSet}
    (h : ∀ q : PortId, ref.getLsbD q = (e.forward.getLsbD q && q != src)) :
    entryMatches s src f e = true ↔
      e.source.getLsbD src = true ∧ s.condition ref e.cond = true ∧ identMatches e f.ident = true ∧ e.minLen ≤ f.data.length ∧
      (e.winMask = 0 ∨ (e.window + 2 ≤ f.data.length ∧
        (∀ b : Fin 8, e.winMask.getLsbD (8 + b.val) = true →
          (f.data.getD e.window 0).getLsbD b = e.winVal.getLsbD (8 + b.val)) ∧
        ∀ b : Fin 8, e.winMask.getLsbD b = true → (f.data.getD (e.window + 1) 0).getLsbD b = e.winVal.getLsbD b)) := by
  rw [entryMatches, reference_eq h, Bool.and_eq_true, Bool.and_eq_true, Bool.and_eq_true, Bool.and_eq_true, windowMatches_iff,
    decide_eq_true_eq, and_assoc, and_assoc, and_assoc]

/-! ### Conditions -/

theorem condition_high (s : State) (ref : PortSet) (n : Nat) (h : n < 16) :
    s.condition ref (n + 16) =
      if n % 2 = 0 then (s.lines.gpi.get ⟨n / 2, by omega⟩).level else !(s.lines.gpi.get ⟨n / 2, by omega⟩).level :=
  dif_pos h

theorem condition_gpi (s : State) (ref : PortSet) (k : GpiId) :
    s.condition ref (16 + 2 * k.val) = (s.line (.gpi k)).level ∧ s.condition ref (17 + 2 * k.val) = !(s.line (.gpi k)).level := by
  have hk := k.isLt
  constructor
  · rw [show 16 + 2 * k.val = 2 * k.val + 16 by omega, condition_high _ _ _ (by omega), if_pos (by omega)]
    simp [State.line]
  · rw [show 17 + 2 * k.val = (2 * k.val + 1) + 16 by omega, condition_high _ _ _ (by omega), if_neg (by omega)]
    have : (2 * k.val + 1) / 2 = k.val := by omega
    simp [State.line, this]

theorem condition_level {s : State} {ref : PortSet} {level : BudgetLevel} (h : s.levelRead = level) :
    (s.condition ref 3 = true ↔ level = .opened) ∧ (s.condition ref 4 = true ↔ level = .opened ∨ level = .restricted) ∧
    (s.condition ref 5 = true ↔ level = .opened ∨ level = .restricted ∨ level = .essential) ∧
    (s.condition ref 6 = true ↔ level = .exhausted) := by
  simp [State.condition, h, or_assoc]

theorem condition_groups (s : State) (ref : PortSet) :
    (s.condition ref 7 = true ↔ ∃ g : GroupId, (s.group g).state = .up) ∧
    (s.condition ref 13 = true ↔ ∃ g : GroupId, (s.group g).state = .quarantined) := by
  simp [State.condition, mem_allGroups]

theorem condition_reference (s : State) (ref : PortSet) :
    (s.condition ref 8 = true ↔ ∀ p : PortId, ref.getLsbD p = true → s.awake p = true) ∧
    (s.condition ref 9 = true ↔ ∀ p : PortId, ref.getLsbD p = true → s.awake p = false) := by
  simp only [State.condition, List.all_eq_true, mem_allPorts, forall_true_left, Bool.or_eq_true, Bool.not_eq_true']
  constructor <;> refine forall_congr' fun p => ?_ <;> cases ref.getLsbD p.val <;> simp

theorem condition_hold (s : State) (ref : PortSet) :
    (s.condition ref 10 = true ↔ s.hold.length < 36) ∧ (s.condition ref 11 = true ↔ 36 ≤ s.hold.length) := by
  simp only [State.condition, decide_eq_true_eq]
  exact ⟨Iff.rfl, Iff.rfl⟩

theorem entryAt_short {m : Memory} {pos : Nat} {e : RuleEntry} (h : m.entryAt pos = .rule e) (hs : e.long = false) :
    e.idMask = BitVec.allOnes 29 ∧ e.minLen = 0 ∧ e.winMask = 0 := by
  have short (a : Action) (he : m.entryFields pos false a = e) : e.idMask = BitVec.allOnes 29 ∧ e.minLen = 0 ∧ e.winMask = 0 := by
    subst he
    exact ⟨rfl, rfl, rfl⟩
  have long (a : Action) (he : m.entryFields pos true a = e) : False := by
    subst he
    cases hs
  unfold Memory.entryAt at h
  split at h
  · exact short _ (EntryAt.rule.inj h)
  · exact short _ (EntryAt.rule.inj h)
  · exact short _ (EntryAt.rule.inj h)
  · exact (long _ (EntryAt.rule.inj h)).elim
  · exact (long _ (EntryAt.rule.inj h)).elim
  · exact (long _ (EntryAt.rule.inj h)).elim
  · cases h
  · cases h

/-- Settles O32: item by item over the gathering, test by test of an entry, and code by code. -/
theorem searchGathersTheChain : Obligations.SearchGathersTheChain := by
  refine ⟨fun s src f chain hchain => ?_, fun s src f e ref href => ?_, fun m pos e => entryAt_short, fun s ref level hlevel => ?_⟩
  · rw [searchRules_eq_gather, ← hchain]
    have hcls := gather_cls_eq_none WorkingRecord.empty chain
    refine ⟨?_, ?_, ?_, fun q => ?_, fun g => ?_, ⟨fun h => (hcls.mp h).2, fun h => hcls.mpr ⟨rfl, h⟩⟩, fun c hc => ?_, ?_⟩
    · rw [gather_rule]
      exact Option.none_or
    · rw [gather_blocked]
      exact Bool.false_or _
    · rw [gather_hold]
      exact Bool.false_or _
    · rw [gather_forward]
      exact (congrArg (· || _) BitVec.getLsbD_zero).trans (Bool.false_or _)
    · rw [gather_wake]
      exact (congrArg (· || _) BitVec.getLsbD_zero).trans (Bool.false_or _)
    · obtain ⟨hmem, -, hall⟩ := gather_cls_eq_some hc
      exact ⟨hmem.resolve_left (fun h => by cases h), hall⟩
    · rw [gather_reports]
      rfl
  · refine (entryMatches_iff href).trans (and_congr_right fun _ => and_congr_right fun _ => and_congr ?_ Iff.rfl)
    cases f.ident with
    | std id => exact identMatches_std e id
    | ext id => exact identMatches_ext e id
  · have hread : s.levelRead = level := hlevel.symm
    obtain ⟨h3, h4, h5, h6⟩ := condition_level (ref := ref) hread
    obtain ⟨h7, h13⟩ := condition_groups s ref
    obtain ⟨h8, h9⟩ := condition_reference s ref
    obtain ⟨h10, h11⟩ := condition_hold s ref
    refine ⟨rfl, beq_iff_eq, beq_iff_eq, h3, h4, h5, h6, h7, h8, h9, h10, h11, Iff.rfl, h13, ?_, rfl, fun k => ?_⟩
    · exact Option.isSome_iff_ne_none
    · obtain ⟨heven, hodd⟩ := condition_gpi s ref k
      rw [heven, hodd]
      exact ⟨Iff.rfl, Bool.not_eq_true' _ ▸ Iff.rfl⟩

/-! ### Routes -/

theorem mem_destinations {set : PortSet} {src q : PortId} : q ∈ destinations set src ↔ set.getLsbD q = true ∧ q ≠ src := by
  simp [destinations, mem_allPorts]

theorem destinations_ascending (set : PortSet) (src : PortId) : (destinations set src).Pairwise (fun a b => a < b) :=
  List.Pairwise.filter _ (by decide)

/-- The classification of a frame that no rule matches. -/
theorem classifyFrame_unmatched {p : PortId} {f : Frame} {s : State} (hm : s.mode.mode ≠ .unconfigured)
    (hb : (searchRules s p f).blocked = false) (hr : (searchRules s p f).rule = none) :
    classifyFrame p f s = (destinations s.activeBank.defaultRoute p).foldl (routeTo f) s := by
  unfold classifyFrame
  split
  · exact absurd ‹_› hm
  · dsimp only
    rw [hb, if_neg Bool.false_ne_true, hr]
  · dsimp only
    rw [hb, if_neg Bool.false_ne_true, hr]

theorem classifyFrame_matched {p : PortId} {f : Frame} {s : State} {index : Nat} (hm : s.mode.mode ≠ .unconfigured)
    (hb : (searchRules s p f).blocked = false) (hr : (searchRules s p f).rule = some index) :
    classifyFrame p f s = applyMatched p f (searchRules s p f) s := by
  unfold classifyFrame
  split
  · exact absurd ‹_› hm
  · dsimp only
    rw [hb, if_neg Bool.false_ne_true, hr]
  · dsimp only
    rw [hb, if_neg Bool.false_ne_true, hr]

theorem classifyFrame_unconfigured {p : PortId} {f : Frame} {s : State} (hm : s.mode.mode = .unconfigured) :
    classifyFrame p f s =
      (destinations (BitVec.allOnes 5) p).foldl (fallbackTo f) (s.quietWake .frame (.port p) (some f.ident)) := by
  rw [classifyFrame, hm]

/-- Settles O34: the two ways of a frame that no rule matches, and the cases of each destination. -/
theorem unmatchedFrameGoesByDefaultRoute : Obligations.UnmatchedFrameGoesByDefaultRoute := by
  rintro p s u f hw hu
  have htake : exec (.classification p) s = .next (classifyFrame p f u) := by
    rw [exec_classification, takeFrame_of_waiting hw, hu]
  have hsearch : searchRules u p f = searchRules s p f := by rw [hu, searchRules_setPort]
  have hmode : u.mode = s.mode := by rw [hu, mode_setPort]
  refine ⟨fun hm hb hr => ?_, fun hm => ?_, fun set => ⟨destinations_ascending set p, fun q => mem_destinations⟩, fun v q => ?_⟩
  · rw [htake, classifyFrame_unmatched (by rwa [hmode]) (by rwa [hsearch]) (by rwa [hsearch]), hu, activeBank_setPort]
  · rw [htake, classifyFrame_unconfigured (by rwa [hmode])]
    have hquiet : u.quietWake .frame (.port p) (some f.ident) =
        if s.mode.fb then u else
          (takeWake { set := 0xFF, cls := 0, cause := .frame, source := some (.port p), rule := none, ident := some f.ident } u).1 := by
      rw [← hmode]
      rfl
    rw [hquiet]
    rfl
  · refine ⟨fun ha hh => ?_, fun ha hh => ?_, fun ha => ?_, fun ha => ?_⟩
    · rw [routeTo, if_pos ha, if_neg (by rw [hh]; exact Bool.false_ne_true)]
    · rw [routeTo, if_pos ha, if_pos hh]
    · rw [routeTo, fallbackTo, if_neg (by rw [ha]; exact Bool.false_ne_true), if_neg (by rw [ha]; exact Bool.false_ne_true)]
      exact ⟨rfl, rfl⟩
    · rw [fallbackTo, if_pos ha]

/-- Settles O35: the application of a matched frame, and the cases of R54. -/
theorem matchedFrameIsAppliedInOrder : Obligations.MatchedFrameIsAppliedInOrder := by
  rintro p s u f w index hw hm rfl hb hr hu
  have hexec : exec (.classification p) s =
      .next ((destinations (searchRules s p f).forward p).foldl (forwardTo f (searchRules s p f).hold (some index)) u) := by
    rw [exec_classification, takeFrame_of_waiting hw, classifyFrame_matched (index := index) (by rwa [mode_setPort])
      (by rwa [searchRules_setPort]) (by rwa [searchRules_setPort]), searchRules_setPort, applyMatched, hu, frameRequest, hr]
    rfl
  refine ⟨hexec, fun he => by rw [hexec, he]; rfl, fun v q => ⟨fun ha hh => ?_, fun hh => ?_, fun ha hh hc hg => ?_, fun ha hh hc => ?_⟩⟩
  · rw [forwardTo, if_pos (by rw [ha, hh]; rfl)]
  · rw [forwardTo, if_neg (by rw [hh]; simp), if_pos hh]
  · rw [forwardTo, if_neg (by rw [ha]; simp), if_neg (by rw [hh]; simp), if_pos (by rw [hc, hg]; rfl)]
  · rw [forwardTo, if_neg (by rw [ha]; simp), if_neg (by rw [hh]; simp), if_neg (by rcases hc with hc | hc <;> rw [hc] <;> simp)]

/-! ### Battery reports -/

theorem relevel_eq (a : ChargeAccount) :
    relevel a = { a with level := if a.loaded then levelOf a.bRem a.l2 a.l3 else a.level } := by
  unfold relevel
  split <;> rfl

theorem relevel_loaded {a : ChargeAccount} (h : a.loaded = true) : relevel a = { a with level := levelOf a.bRem a.l2 a.l3 } :=
  if_pos h

theorem takeReport_parked {s : State} {v : Nat} (hm : s.mode.mode = .parked) (hv : v ≠ 0xFFFF) :
    s.takeReport (some v) = s.announce (reportAccount v s.charge) := by
  unfold State.takeReport
  rw [hm]
  exact if_neg hv

/-- A change of the account that does not bring B_rem to 0 is not announced. -/
theorem announce_quiet {s : State} {a : ChargeAccount} (h : a.bRem = 0 → s.charge.bRem = 0) : s.announce a = { s with charge := a } :=
  if_neg (fun hz => hz.2 (h hz.1))

theorem announce_exhausted {s : State} {a : ChargeAccount} (h : a.bRem = 0) (hs : s.charge.bRem ≠ 0) :
    s.announce a = State.exhaust { s with charge := a } := if_pos ⟨h, hs⟩

theorem reportAccount_above {v : Nat} {a : ChargeAccount} (hl : a.loaded = true) (h : a.bRem ≤ v * 1000) :
    reportAccount v a = { a with level := levelOf a.bRem a.l2 a.l3 } := by
  rw [reportAccount, if_neg (Nat.not_lt.mpr h), relevel_loaded hl]

theorem reportAccount_below {v : Nat} {a : ChargeAccount} (hl : a.loaded = true) (h : v * 1000 < a.bRem) :
    reportAccount v a =
      { a with bRem := v * 1000, cut := a.cut + (a.bRem - v * 1000), level := levelOf (v * 1000) a.l2 a.l3 } := by
  rw [reportAccount, if_pos h, relevel_loaded (by exact hl)]

/-- Settles O36: the cases of the report by its value. -/
theorem batteryReportLowersBudget : Obligations.BatteryReportLowersBudget := by
  intro s v
  refine ⟨?_, ?_, fun hm => ?_, fun hm hl hv h => ?_, fun hm hl hv h0 h => ?_, fun hm hl h0 => ?_⟩
  · unfold State.takeReport
    split
    · cases ‹_ = some _›
    · rfl
  · unfold State.takeReport
    split
    · rename_i hs
      exact if_pos (Option.some.inj hs).symm
    · rfl
  · unfold State.takeReport
    split
    · exact absurd ‹_› hm
    · rfl
  · rw [takeReport_parked hm hv, reportAccount_above hl h]
    exact announce_quiet (fun hz => hz)
  · rw [takeReport_parked hm hv, reportAccount_below hl h, announce_quiet (fun hz => absurd hz (by simpa using h0))]
  · rw [takeReport_parked hm (by decide), reportAccount_below hl (by omega), announce_exhausted rfl h0]
    simp [levelOf]

end Sys2Proof.Machine
end

section
/-! Time, the hold queue, the clocks, the charge account, the storm timers, the history, the ends of verification and copy, and the
input lines (R30, R37, R57 to R67, R98 to R110, R118 to R140, R148). -/

namespace Sys2Proof.Machine

/-! ### Hold queue -/

theorem releasable_iff (s : State) (p : PortId) :
    s.releasable p = true ↔ (s.port p).state = .active ∧ (s.port p).queue.length < 16 ∧ ∃ e ∈ s.hold, e.dest = p := by
  simp only [State.releasable, State.hasHeld, Bool.and_eq_true, beq_iff_eq, decide_eq_true_eq, List.any_eq_true, and_assoc]
  exact Iff.rfl

theorem heldFront_split {s : State} {p : PortId} {before after : List HoldEntry} {e : HoldEntry} (h : s.hold = before ++ e :: after)
    (he : e.dest = p) (hb : ∀ x ∈ before, x.dest ≠ p) :
    s.heldFront p = some e ∧ s.hold.eraseP (fun x => x.dest == p) = before ++ after := by
  have hnone : before.find? (fun x => x.dest == p) = none := by simpa using hb
  constructor
  · rw [State.heldFront, h, List.find?_append, hnone, Option.none_or, List.find?_cons_of_pos (by simpa using he)]
  · rw [h, List.eraseP_append_right _ (by simpa using hb), List.eraseP_cons_of_pos (by simpa using he)]

/-- Settles O37: the front of the run found by splitting the queue, and the entry at a position. -/
theorem holdEntriesAreReleasedOrExpire : Obligations.HoldEntriesAreReleasedOrExpire := by
  refine ⟨fun p s before after e h he hb hs hq => ?_, fun p s h => ?_, fun i s e he => ?_, fun i s h => ?_⟩
  · obtain ⟨hfront, hrest⟩ := heldFront_split h he hb
    have hrel : s.releasable p = true := (releasable_iff s p).mpr ⟨hs, hq, e, by simp [h], he⟩
    have hex : exec (.holdRelease p) s = .next (State.offer { s with hold := before ++ after } p e.frame) := by
      simp only [exec, execHoldRelease, hrel, hfront, hrest]
    refine ⟨_, hex, rfl, fun q hne => port_setPort_ne { s with hold := before ++ after } _ hne, ?_⟩
    exact (port_offer_self { s with hold := before ++ after } p e.frame).trans (offerPort_room hs hq)
  · have hrel : s.releasable p = false := by
      rw [← Bool.not_eq_true, releasable_iff]
      rintro ⟨hs, hq, e, he, hd⟩
      rcases h with h | h | h
      · rw [h] at hs; cases hs
      · omega
      · exact h e he hd
    simp only [exec, execHoldRelease, hrel]
  · let u : State := { s.elapse e.remaining with hold := (s.elapse e.remaining).hold.eraseIdx i.val }
    have hex : exec (.holdExpiry i) s = .next (u.count e.dest .holdExpired) := by
      simp only [exec, execHoldExpiry, he, u]
    exact ⟨_, hex, rfl, fun q hne => port_setPort_ne u _ hne, counted_one _ (port_setPort_self u e.dest _)⟩
  · simp only [exec, execHoldExpiry, List.getElem?_eq_none h]

/-! ### The passing of time -/

theorem tabGroups_eq {α : Type} {f : GroupId → α} {v : Vector α 8} (h : ∀ g, f g = v.get g) : tabGroups f = v :=
  vector_ext_get fun g => (tabGroups_get f g).trans (h g)

theorem passTimer_zero (t : Option Nat) : passTimer 0 t = t := by cases t <;> rfl

theorem linePass_zero (x : Line) : linePass 0 x = x := by rw [linePass, passTimer_zero]

theorem seqTimer_pass_zero (t : SeqTimer) : t.pass 0 = t := by cases t <;> rfl

theorem groupPass_zero (x : Group) : groupPass 0 x = x := by rw [groupPass, seqTimer_pass_zero]; rfl

theorem stormPass_zero (x : StormRecord) : stormPass 0 x = x := by rw [stormPass, passTimer_zero, passTimer_zero]

/-- No time leaves every item but the account, whose drawing time is capped, as it is. -/
theorem elapse_zero (s : State) : s.elapse 0 = { s with charge := (s.elapse 0).charge } := by
  have hgpi : tabGroups (fun k => linePass 0 (s.lines.gpi.get k)) = s.lines.gpi := tabGroups_eq fun k => linePass_zero _
  have hgroups : tabGroups (fun g => groupPass 0 (s.group g)) = s.groups := tabGroups_eq fun g => groupPass_zero _
  have hstorm : tabGroups (fun g => stormPass 0 (s.stormOf g)) = s.storm := tabGroups_eq fun g => stormPass_zero _
  have hhold : s.hold.map (fun e => { e with remaining := e.remaining - 0 }) = s.hold := List.map_id s.hold
  unfold State.elapse
  rw [hgpi, hgroups, hstorm, hhold, linePass_zero, linePass_zero, passTimer_zero, passTimer_zero, passTimer_zero,
    passTimer_zero]
  rfl

theorem supplyOn_iff (x : GroupState) :
    x.supplyOn = true ↔ x = .powering ∨ x = .releasing ∨ x = .up ∨ x = .draining := by
  cases x <;> simp [GroupState.supplyOn]

theorem drawn_elapse (n : Nat) (s : State) (g : GroupId) :
    (s.elapse n).charge.drawn.get g =
      if (s.group g).state.supplyOn then max (s.charge.drawn.get g) (min 1000 (s.charge.drawn.get g + s.accounted n))
      else s.charge.drawn.get g := by
  rw [← satAdd_eq]
  exact tabGroups_get _ g

theorem accounted_parked {s : State} {n left : Nat} (hm : s.mode.mode = .parked) (ht : s.charge.timer = some left) (hn : n ≤ left) :
    s.accounted n = n := by
  rw [State.accounted, hm, ht]
  exact Nat.min_eq_left hn

theorem accounted_elsewhere {s : State} (n : Nat) (hm : s.mode.mode ≠ .parked) : s.accounted n = 0 := by
  unfold State.accounted
  split
  · exact absurd ‹_› hm
  · rfl

/-- Settles O46: each block of `elapse` in turn. -/
theorem timePassesForTimersAndDraw : Obligations.TimePassesForTimersAndDraw := by
  intro n s
  refine ⟨elapse_zero s, rfl, rfl, rfl, rfl, rfl, rfl, rfl, fun l => line_elapse n s l, rfl, fun g => ?_, fun g => stormOf_elapse n s g,
    fun g left hm ht hn => ?_, fun hm g => ?_, rfl⟩
  · rw [group_elapse]
    refine ⟨rfl, rfl, rfl, rfl, rfl, ?_, ?_, ?_, ?_, ?_, ?_⟩ <;> intros <;> rename_i h <;> rw [groupPass, h] <;> rfl
  · rw [drawn_elapse, accounted_parked hm ht hn]
    simp only [supplyOn_iff]
  · rw [drawn_elapse, accounted_elsewhere n hm]
    split
    · omega
    · rfl

/-! ### Clocks -/

/-- Settles O48: the two timers of a storm record. -/
theorem stormTimersRunOut : Obligations.StormTimersRunOut := by
  intro g s n
  refine ⟨fun h => ?_, fun h => ?_, fun hq h => ?_⟩
  · simp only [exec, execWindowExpiry, h]
  · simp only [exec, execWindowExpiry, h]
  · simp only [exec, execQuarantineExpiry, hq, h]
    rfl

/-- Settles O49: the three part-wide timers. -/
theorem modeClockAndLingerRunOut : Obligations.ModeClockAndLingerRunOut := by
  intro s u
  refine ⟨?_, ?_, fun h => ?_, ?_, fun h => ?_⟩
  · rintro rfl
    have hsat : satAdd Config.wordMax s.mode.modeTime 1 =
        if s.mode.modeTime < 4294967295 then s.mode.modeTime + 1 else s.mode.modeTime := by
      rw [satAdd, show Config.wordMax = 4294967295 from rfl]
      split <;> omega
    rw [← hsat]
    rfl
  · rintro n h rfl
    simp only [exec, execParkSettleExpiry, h]
  · simp only [exec, execParkSettleExpiry, h]
  · rintro n h rfl
    simp only [exec, execMgmtLingerExpiry, h]
  · simp only [exec, execMgmtLingerExpiry, h]

/-! ### Charge -/

theorem groupRecord_bounds (m : Memory) (g : GroupId) :
    (m.groupRecord g).draw ≤ 4095 ∧ (m.groupRecord g).tmin ≤ 60000 ∧ (m.groupRecord g).inrush ≤ 255 := by
  refine ⟨?_, ?_, ?_⟩
  · change (if m.present g then m.u16 (groupOffset g + 2) % 4096 else 0) ≤ 4095
    split <;> omega
  · change max 100 (min _ 60000) ≤ 60000
    omega
  · exact Nat.le_of_lt_succ (m.read (groupOffset g + 4)).isLt

/-- Settles O50: rounding up by 999, the ranges of the record, and the cases of the grant test. -/
theorem costAndGrantTest : Obligations.CostAndGrantTest := by
  refine ⟨fun m g => ?_, fun s cost hm => ?_, fun s c cost hm => ?_⟩
  · obtain ⟨hdraw, htmin, hinrush⟩ := groupRecord_bounds m g
    have hprod : (m.groupRecord g).draw * (m.groupRecord g).tmin ≤ 4095 * 60000 := Nat.mul_le_mul hdraw htmin
    unfold costFromOff costFromUp
    generalize (m.groupRecord g).draw * (m.groupRecord g).tmin = product at *
    refine ⟨?_, ?_, rfl, ?_, ?_⟩ <;> omega
  · simp only [State.grants, hm, parkedGrant, Bool.and_eq_true, decide_eq_true_eq, and_self]
  · unfold State.grants
    split
    · exact absurd ‹_› hm
    · rfl
    · rfl

/-- R120, steps 1 to 8. -/
theorem settleAccount_eq {m : Memory} {t total debit : Nat} {a : ChargeAccount} (ht : total = drawnCharge m a.drawn t + a.carry)
    (hd : debit = total / 1000 + a.inrush) :
    settleAccount m t a =
      { a with
        carry := total % 1000, bRem := a.bRem - min debit a.bRem, spent := a.spent + min debit a.bRem,
        shortfall := max a.shortfall (min 4294967295 (a.shortfall + (debit - min debit a.bRem))),
        drawn := #v[0, 0, 0, 0, 0, 0, 0, 0], inrush := 0,
        level := if a.loaded then levelOf (a.bRem - min debit a.bRem) a.l2 a.l3 else a.level } := by
  subst hd ht
  rw [settleAccount, relevel_eq, satAdd_eq]
  rfl

/-- Settles O47: the account after the interval, and whether its change is announced. -/
theorem settlementDebitsTheInterval : Obligations.SettlementDebitsTheInterval := by
  rintro s u left total debit a hm ht hl rfl htotal hdebit ha
  have hex : exec .settlement s = .next (settleInterval (s.elapse left)) := by
    simp only [exec, execSettlement, hm, ht]
  have hacc : { settleAccount (s.elapse left).activeBank Config.intervalMs (s.elapse left).charge with timer := some Config.intervalMs } =
      a := by
    rw [settleAccount_eq (m := (s.elapse left).activeBank) (a := (s.elapse left).charge) (t := Config.intervalMs) htotal hdebit, ha,
      if_pos (by exact hl)]
    rfl
  have hrem : a.bRem = s.charge.bRem - min debit s.charge.bRem := by rw [ha]
  rw [hex, settleInterval, hacc]
  refine ⟨fun h => ?_, fun h0 h => ?_⟩
  · rw [announce_quiet]
    rw [bRem_elapse, hrem]
    omega
  · rw [announce_exhausted (by omega) (by rwa [bRem_elapse])]

/-! ### History -/

/-- Settles O51: the two branches of a push. -/
theorem historyOverwritesTheOldest : Obligations.HistoryOverwritesTheOldest := by
  refine fun h r => ⟨fun hlt => if_pos hlt, fun hfull hover => ?_⟩
  have hpush : h.push r = { records := r :: h.records.take 31, overwrites := satAdd 65535 h.overwrites 1 } :=
    if_neg (by rw [hfull]; exact lt_irrefl _)
  have hsat : satAdd 65535 h.overwrites 1 = if h.overwrites < 65535 then h.overwrites + 1 else h.overwrites := by
    rw [satAdd]
    split <;> omega
  rw [hpush, hsat, List.dropLast_eq_take, hfull]

/-! ### Verification and copy -/

theorem exec_copyComplete {s : State} (h : s.agent.state = .copying) : exec .copyComplete s = .next (completeCopy s) := by
  simp only [exec, execCopyComplete, h]

/-- Settles O52: the two ends, and that they do nothing in another agent state. -/
theorem verificationAndCopyComplete : Obligations.VerificationAndCopyComplete := by
  refine ⟨fun s h hv => ?_, fun s x h hv => ?_, fun s h => ?_, fun s => ⟨fun h => ?_, fun h => ?_⟩⟩
  · simp only [exec, execVerificationComplete, h, completeVerification, hv]
  · simp only [exec, execVerificationComplete, h, completeVerification, hv]
  · obtain ⟨hlock, hfault, -, hone⟩ := setStandbyBank_rest s.store s.activeBank
    exact ⟨_, exec_copyComplete h, rfl, setStandbyBank_standbyBank _ _, setStandbyBank_active _ _, hone, rfl, hfault, hlock⟩
  · simp only [exec, execVerificationComplete]
    split
    · exact absurd ‹_› h
    · rfl
    · rfl
  · simp only [exec, execCopyComplete]
    split
    · exact absurd ‹_› h
    · rfl
    · rfl

/-! ### Lines -/

theorem lines_setLine_frame (s : State) (l : InputLine) (x : Line) : s.setLine l x = { s with lines := (s.setLine l x).lines } := by
  cases l <;> rfl

/-- The expiry of a debounce timer (R57). -/
theorem edgeTaken_takeEdge (l : InputLine) (n : Nat) (s : State) : EdgeTaken l (s.elapse n) (takeEdge l n s) :=
  ⟨lines_setLine_frame _ _ _, line_setLine_self _ _ _, fun _ hk => line_setLine_ne _ _ hk⟩

theorem linePinChange_fields (full : Nat) (level : Bool) (x : Line) :
    (linePinChange full level x).pin = level ∧ (linePinChange full level x).level = x.level ∧
    (linePinChange full level x).prev = x.prev ∧
    (level = x.pin → (linePinChange full level x).debounce = x.debounce) ∧
    (level ≠ x.pin → level = x.level → (linePinChange full level x).debounce = none) ∧
    (level ≠ x.pin → level ≠ x.level → (linePinChange full level x).debounce = some full) := by
  unfold linePinChange
  split
  · subst_vars
    exact ⟨rfl, rfl, rfl, fun _ => rfl, fun h => absurd rfl h, fun h => absurd rfl h⟩
  · exact ⟨rfl, rfl, rfl, fun h => absurd h ‹_›, fun _ h => if_pos h, fun _ h => if_neg h⟩

/-- Settles O19: a line after a pin change, and the edge of SVC. -/
theorem pinChangeAndServiceEdge : Obligations.PinChangeAndServiceEdge := by
  refine ⟨fun l level s => ?_, fun s n h => ⟨_, ?_, edgeTaken_takeEdge .svc n s⟩, fun s h => ?_⟩
  · refine ⟨_, rfl, lines_setLine_frame _ _ _, fun k hk => line_setLine_ne _ _ hk, ?_⟩
    rw [line_setLine_self]
    obtain ⟨hpin, hlevel, hprev, hsame, hback, hstart⟩ := linePinChange_fields (debounceTime l) level (s.line l)
    refine ⟨hpin, hlevel, hprev, hsame, hback, fun h1 h2 => (hstart h1 h2).trans ?_⟩
    cases l <;> rfl
  · simp only [exec, execSvcEdge, h]
  · simp only [exec, execSvcEdge, h]

theorem exec_gpiEdge {k : GpiId} {s : State} {n : Nat} (h : (s.line (.gpi k)).debounce = some n) :
    exec (.gpiEdge k) s = .next (examineEdge k (takeEdge (.gpi k) n s)) := by
  simp only [exec, execGpiEdge, h]

theorem exec_ignEdge {s : State} {n : Nat} (h : s.lines.ign.debounce = some n) :
    exec .ignEdge s = .next (ignEdgeTaken (takeEdge .ign n s)) := by
  simp only [exec, execIgnEdge, h]

theorem mode_takeEdge (l : InputLine) (n : Nat) (s : State) : (takeEdge l n s).mode = (s.elapse n).mode := mode_setLine _ _ _

theorem activeBank_takeEdge (l : InputLine) (n : Nat) (s : State) : (takeEdge l n s).activeBank = s.activeBank :=
  congrArg RuleStore.active (store_setLine _ _ _)

/-- Settles O21: the wake of the fallback policy after the edge is taken. -/
theorem unconfiguredEdgesFollowFallback : Obligations.UnconfiguredEdgesFollowFallback := by
  intro s n hm
  refine ⟨fun k h => ⟨_, edgeTaken_takeEdge (.gpi k) n s, ?_⟩, fun h => ⟨_, edgeTaken_takeEdge .ign n s, ?_⟩⟩
  · have hmode : (takeEdge (.gpi k) n s).mode.mode = .unconfigured := by rw [mode_takeEdge]; exact hm
    have hfb : (takeEdge (.gpi k) n s).mode.fb = s.mode.fb := by rw [mode_takeEdge]; rfl
    rw [exec_gpiEdge h, examineEdge, hmode, ← hfb]
    rfl
  · have hmode : (takeEdge .ign n s).mode.mode = .unconfigured := hm
    rw [exec_ignEdge h, ignEdgeTaken, hmode]
    rfl

theorem edgeMatches_iff (kind : EdgeKind) (rising : Bool) :
    edgeMatches kind rising = true ↔ (kind = .rise ∧ rising = true) ∨ (kind = .fall ∧ rising = false) ∨ kind = .both := by
  cases kind <;> cases rising <;> simp [edgeMatches]

theorem boundPort_eq_some {s : State} {g : GroupId} {p : PortId} (hm : s.mode.mode ≠ .unconfigured) :
    s.boundPort g = some p ↔
      (s.activeBank.groupRecord g).present = true ∧ (s.activeBank.read (32 + 12 * g.val + 1)).toNat = p.val := by
  have hparams : s.params g = s.activeBank.groupRecord g := by
    unfold State.params
    split
    · exact absurd ‹_› hm
    · rfl
    · rfl
  have hbound : (s.activeBank.groupRecord g).bound =
      if s.activeBank.present g then portOf (s.activeBank.read (32 + 12 * g.val + 1)).toNat else none := rfl
  have hport : ∀ n : Nat, portOf n = some p ↔ n = p.val := by
    intro n
    unfold portOf
    split
    · exact ⟨fun h => congrArg Fin.val (Option.some.inj h), fun h => congrArg some (Fin.ext h)⟩
    · exact ⟨fun h => (by cases h), fun h => absurd (h ▸ p.isLt) ‹_›⟩
  rw [State.boundPort, hparams, hbound]
  by_cases hp : s.activeBank.present g = true
  · rw [if_pos hp, hport]
    exact ⟨fun h => ⟨hp, h⟩, fun h => h.2⟩
  · rw [if_neg hp]
    exact ⟨fun h => (by cases h), fun h => absurd h.1 hp⟩

/-- A group's contribution to the reference set of a line record. -/
def referenceStep (s : State) (wake : GroupSet) (acc : PortSet) (g : GroupId) : PortSet :=
  match wake.getLsbD g.val, s.boundPort g with
  | true, some p => acc ||| (1#5 <<< p.val)
  | _, _ => acc

theorem referenceStep_getLsbD (s : State) (wake : GroupSet) (acc : PortSet) (g : GroupId) (p : PortId) :
    (referenceStep s wake acc g).getLsbD p = true ↔
      acc.getLsbD p = true ∨ (wake.getLsbD g = true ∧ s.boundPort g = some p) := by
  unfold referenceStep
  split
  · rename_i q hw hq
    rw [BitVec.getLsbD_or, Bool.or_eq_true, getLsbD_single, decide_eq_true_eq, hw, hq, Option.some_inj, eq_comm (a := p)]
    simp
  · rename_i hno
    exact ⟨.inl, fun h => h.resolve_right fun hb => hno p hb.1 hb.2⟩

theorem lineReference_getLsbD (s : State) (wake : GroupSet) (p : PortId) :
    (s.lineReference wake).getLsbD p = true ↔ ∃ g : GroupId, wake.getLsbD g = true ∧ s.boundPort g = some p := by
  have key : ∀ (l : List GroupId) (acc : PortSet), (l.foldl (referenceStep s wake) acc).getLsbD p = true ↔
      acc.getLsbD p = true ∨ ∃ g ∈ l, wake.getLsbD g = true ∧ s.boundPort g = some p := by
    intro l
    induction l with
    | nil => simp
    | cons a l ih => intro acc; rw [List.foldl_cons, ih, referenceStep_getLsbD]; simp [or_assoc]
  have h := key allGroups 0
  simp only [mem_allGroups, true_and] at h
  exact h.trans (or_iff_right (by simp))

/-- Settles O20: the record's edge kind and condition, tested after the edge is taken. -/
theorem gpiEdgeWakesByLineRecord : Obligations.GpiEdgeWakesByLineRecord := by
  intro k s n h hm
  have hedge := edgeTaken_takeEdge (.gpi k) n s
  have hmode : (takeEdge (.gpi k) n s).mode.mode ≠ .unconfigured := by rw [mode_takeEdge]; exact hm
  have hbank := activeBank_takeEdge (.gpi k) n s
  have hlevel : ((takeEdge (.gpi k) n s).line (.gpi k)).level = (s.line (.gpi k)).pin := by
    rw [hedge.2.1, line_elapse]
    rfl
  refine ⟨takeEdge (.gpi k) n s, hedge, fun p => ?_, ?_⟩
  · rw [lineReference_getLsbD]
    simp only [boundPort_eq_some hmode, hbank]
  · have hex : exec (.gpiEdge k) s = .next
        (if edgeMatches (s.activeBank.lineRecord k).edge (s.line (.gpi k)).pin &&
            (takeEdge (.gpi k) n s).condition ((takeEdge (.gpi k) n s).lineReference (s.activeBank.lineRecord k).wake)
              (s.activeBank.lineRecord k).cond then
          (takeWake (lineRequest k (s.activeBank.lineRecord k)) (takeEdge (.gpi k) n s)).1
        else takeEdge (.gpi k) n s) := by
      rw [exec_gpiEdge h, ← hbank, ← hlevel]
      unfold examineEdge
      split
      · exact absurd ‹_› hmode
      · rfl
      · rfl
    rw [hex, ← edgeMatches_iff, ← Bool.and_eq_true]
    exact ⟨fun hc => by rw [if_pos hc]; rfl, fun hc => by rw [if_neg hc]⟩

end Sys2Proof.Machine
end

section
/-! Group channels: the entries into their states, the timers and faults, wake requests by state, and exhaustion (R75 to R92, R132,
R134). -/

namespace Sys2Proof.Machine

/-! ### Entries into states -/

theorem upTimer_eq (g : GroupId) (s : State) :
    upTimer g s =
      if (s.mode.mode = .drive ∧ (s.params g).driveForced = true) ∨ (s.mode.mode = .unconfigured ∧ s.mode.fb = true) then .stopped
      else .linger (s.params g).tmin := by
  unfold upTimer State.fallbackAwake
  split <;> simp [*]

theorem watchAtRelease_eq (g : GroupId) (s : State) : watchAtRelease g s = decide ((s.params g).pgMode = .wait) := by
  unfold watchAtRelease
  split <;> simp [*]

/-- The state with a group in RELEASING, before what the entry finds there takes it on (R79). -/
def releasingState (g : GroupId) (u : State) : State :=
  u.changeGroup g { u.group g with state := .releasing, timer := .settle (u.params g).settle,
                                   watch := decide ((u.params g).pgMode = .wait) }

theorem group_releasingState (g : GroupId) (u : State) :
    (releasingState g u).group g =
      { u.group g with state := .releasing, timer := .settle (u.params g).settle, watch := decide ((u.params g).pgMode = .wait) } :=
  group_changeGroup_self _ _ _

/-- R79, R82: the watch is on and PGk negated. -/
theorem enterReleasing_lost {g : GroupId} {u : State} (hw : (u.params g).pgMode = .wait) (hp : u.pg.getLsbD g = false) :
    enterReleasing g u = enterFault g .pgLost (releasingState g u) := by
  have hwatch := watchAtRelease_eq g u
  rw [enterReleasing, if_pos, hwatch]
  · rfl
  · rw [hwatch, hw, hp]
    rfl

theorem enterReleasing_kept {g : GroupId} {u : State} (hk : (u.params g).pgMode = .wait → u.pg.getLsbD g = true) :
    enterReleasing g u = if (u.params g).settle = 0 then enterUp g (releasingState g u) else releasingState g u := by
  have hwatch := watchAtRelease_eq g u
  rw [enterReleasing, if_neg, hwatch]
  · rfl
  · rw [hwatch]
    by_cases hw : (u.params g).pgMode = .wait
    · rw [hk hw]
      simp
    · simp [hw]

theorem enterFault_eq (g : GroupId) (c : FaultCause) (u : State) :
    enterFault g c u =
      { u.changeGroup g { u.group g with state := .fault, timer := .stopped, grantClass := none, watch := false, lastFault := some c,
                                         faultGuard := 0 } with
        history := u.history.push (PlainRecord .fault g .supervision none (some c) u) } := rfl

/-- Settles O38: the commands end in `enterReleasing`, and that takes one of three ways. -/
theorem powerGoodTakesGroupToReleasing : Obligations.PowerGoodTakesGroupToReleasing := by
  refine ⟨fun g s n hs => ⟨fun ht => ?_, fun ht => ?_⟩, fun g u v hv => ?_⟩
  · simp only [exec, execPowerGoodAsserted, hs, ht]
    rfl
  · simp only [exec, execPowerGoodDelayExpiry, hs, ht]
  · obtain rfl : v = releasingState g u := hv
    refine ⟨fun hw hp => ?_, fun hk h0 => ?_, fun hk h0 => ?_⟩
    · rw [enterReleasing_lost hw hp, enterFault_eq, group_releasingState]
      rfl
    · rw [enterReleasing_kept hk, if_neg h0]
    · rw [enterReleasing_kept hk, if_pos h0, enterUp, upTimer_eq]
      rfl

/-- Settles O39: the three commands end in `enterFault`, whose record reads what no timer changes. -/
theorem faultsSwitchTheGroupOff : Obligations.FaultsSwitchTheGroupOff := by
  intro g s u n c cause
  refine ⟨?_, fun h => ?_⟩
  · rintro (⟨rfl, rfl, hs, ht, rfl⟩ | ⟨rfl, rfl, hs, hw, rfl⟩ | ⟨rfl, rfl, hs, rfl⟩)
    · simp only [exec, execPowerGoodTimeout, hs, ht]
      rfl
    · have hon : ((s.group g).state.wakeOn && (s.group g).watch) = true := by
        rw [hw]
        rcases hs with hs | hs <;> rw [hs] <;> rfl
      simp only [exec, execPowerGoodLost]
      rw [if_pos hon]
      rfl
    · have hon : (s.group g).state.supplyOn = true := (supplyOn_iff _).mpr hs
      simp only [exec, execPowerFault]
      rw [if_pos hon]
      rfl
  · have hoff : ¬(s.group g).state.supplyOn = true := by
      rcases h with h | h | h <;> rw [h] <;> simp [GroupState.supplyOn]
    exact if_neg hoff

theorem exec_lingerExpiry {g : GroupId} {s : State} {n : Nat} (hs : (s.group g).state = .up) (ht : (s.group g).timer = .linger n) :
    exec (.lingerExpiry g) s = .next (enterDraining g (s.elapse n)) := by
  simp only [exec, execLingerExpiry, hs, ht]

/-- Settles O40: the entries that the three timers make. -/
theorem sequenceTimersMoveTheGroupOn : Obligations.SequenceTimersMoveTheGroupOn := by
  intro g s n
  refine ⟨fun hs ht => ?_, fun hs ht hd => ?_, fun hs ht hd => ?_, fun hs ht => ?_⟩
  · simp only [exec, execSettleExpiry, hs, ht, enterUp, upTimer_eq]
    rfl
  · rw [exec_lingerExpiry hs ht, enterDraining, if_neg (by exact hd)]
    rfl
  · have hself := group_enterDraining_self g (s.elapse n)
    rw [if_pos (by exact hd)] at hself
    refine ⟨_, exec_lingerExpiry hs ht, ?_, portsFollow_enterDraining g _, hself, fun h hne => group_enterDraining_ne _ hne⟩
    rw [enterDraining, if_pos (by exact hd)]
    rfl
  · simp only [exec, execDrainExpiry, hs, ht]
    rfl

/-! ### Wake requests -/


/-- Settles O41: the three branches. -/
theorem wakeIsRefusedInFaultAndQuarantine : Obligations.WakeIsRefusedInFaultAndQuarantine := by
  intro r g s
  refine ⟨fun hp => ?_, fun hp hs => ?_, fun hp hs => ?_⟩
  · simp only [takeWakeGroup, hp, Bool.not_false, if_true]
  · simp only [takeWakeGroup, hp, hs, Bool.not_true]
    rfl
  · simp only [takeWakeGroup, hp, hs, Bool.not_true]
    rfl

/-- A request for a present group in OFF meets the storm test, then the grant test (R85, R127, R134). -/
theorem takeWakeGroup_off {r : WakeRequest} {g : GroupId} {s : State} (hp : (s.params g).present = true)
    (hs : (s.group g).state = .off) :
    (stormPasses g s = false → takeWakeGroup r g s = (quarantineGroup r g s, true)) ∧
    (stormPasses g s = true → s.grants r.cls (costFromOff (s.params g)) = false →
      takeWakeGroup r g s = (s.recordRequest .refusedBudget g r, true)) ∧
    (stormPasses g s = true → s.grants r.cls (costFromOff (s.params g)) = true →
      takeWakeGroup r g s = (grantFromOff r g s, false)) := by
  refine ⟨fun h => ?_, fun h hg => ?_, fun h hg => ?_⟩
  · simp [takeWakeGroup, hp, hs, h]
  · simp [takeWakeGroup, hp, hs, h, hg]
  · simp [takeWakeGroup, hp, hs, h, hg]

theorem stormPasses_parked {g : GroupId} {s : State} (hm : s.mode.mode = .parked) :
    stormPasses g s = true ↔ (s.stormOf g).count < s.activeBank.stormLimit := by
  rw [stormPasses, hm, decide_eq_true_eq]

theorem stormPasses_elsewhere {g : GroupId} {s : State} (hm : s.mode.mode ≠ .parked) : stormPasses g s = true := by
  unfold stormPasses
  split
  · exact absurd ‹_› hm
  · rfl
  · rfl

theorem grants_elsewhere {s : State} {c : WakeClass} {cost : Nat} (hm : s.mode.mode ≠ .parked) : s.grants c cost = true := by
  unfold State.grants
  split
  · exact absurd ‹_› hm
  · rfl
  · rfl

/-- The state with a group in POWERING, before power-good found there takes it on (R78). -/
def poweringState (g : GroupId) (c : WakeClass) (s : State) : State :=
  s.changeGroup g
    { s.group g with state := .powering, timer := poweringTimer (s.params g), grantClass := some c, watch := false, faultGuard := 1 }

theorem enterPowering_eq (g : GroupId) (c : WakeClass) (s : State) :
    enterPowering g c s =
      if (s.params g).pgMode = .wait ∧ s.pg.getLsbD g = true then enterReleasing g (poweringState g c s) else poweringState g c s := by
  rw [enterPowering]
  cases hw : (s.params g).pgMode with
  | wait =>
    by_cases hp : s.pg.getLsbD g.val = true
    · exact (if_pos hp).trans (if_pos ⟨rfl, hp⟩).symm
    · exact (if_neg hp).trans (if_neg fun h => hp h.2).symm
  | delay ms => exact (if_neg fun h => by cases h.1).symm

theorem history_enterReleasing {g : GroupId} {u : State} (hk : (u.params g).pgMode = .wait → u.pg.getLsbD g = true) :
    (enterReleasing g u).history = u.history := by
  rw [enterReleasing_kept hk]
  split <;> rfl

/-- The entry into POWERING goes on into RELEASING only with PGk asserted, so it writes no record. -/
theorem history_enterPowering (g : GroupId) (c : WakeClass) (s : State) : (enterPowering g c s).history = s.history := by
  rw [enterPowering_eq]
  split
  · rename_i h
    exact history_enterReleasing fun _ => h.2
  · rfl

theorem enterPowering_frame (g : GroupId) (c : WakeClass) (s : State) :
    enterPowering g c s =
      { s with ports := (enterPowering g c s).ports, hold := (enterPowering g c s).hold, groups := (enterPowering g c s).groups } := by
  have hf : GroupFrame s (enterPowering g c s) := groupFrame_enterPowering g c s
  have hh := history_enterPowering g c s
  unfold GroupFrame at hf
  rw [hh] at hf
  exact hf

/-- What a grant from OFF adds to the entry into POWERING (R119, R132). -/
theorem grantFromOff_parked {r : WakeRequest} {g : GroupId} {s w : State} (hm : s.mode.mode = .parked) (hw : w = enterPowering g r.cls s) :
    grantFromOff r g s =
      { w.setStorm g
            { s.stormOf g with
              count := (s.stormOf g).count + 1
              window := if (s.stormOf g).count = 0 then some (s.activeBank.stormWindow * 1000) else (s.stormOf g).window } with
        charge := { s.charge with inrush := max s.charge.inrush (min 2040 (s.charge.inrush + (s.params g).inrush)) }
        history := s.history.push (RequestRecord .granted g r s) } := by
  have hframe := enterPowering_frame g r.cls s
  rw [grantFromOff, hm, ← hw]
  rw [← hw] at hframe
  have hstorm : w.stormOf g = s.stormOf g := by rw [hframe]; rfl
  have hcharge : w.charge = s.charge := by rw [hframe]
  have hhistory : w.history = s.history := by rw [hframe]
  have hmode : w.mode = s.mode := by rw [hframe]
  have hinrush : addInrush (s.params g).inrush s.charge =
      { s.charge with inrush := max s.charge.inrush (min 2040 (s.charge.inrush + (s.params g).inrush)) } := by
    rw [addInrush, satAdd_eq]
    rfl
  rw [← hinrush]
  dsimp only
  rw [hstorm, hcharge]
  unfold State.recordRequest RequestRecord
  dsimp only [State.setStorm]
  rw [hhistory, hmode]
  rfl

theorem grantFromOff_elsewhere {r : WakeRequest} {g : GroupId} {s w : State} (hm : s.mode.mode ≠ .parked) (hw : w = enterPowering g r.cls s) :
    grantFromOff r g s = { w with history := s.history.push (RequestRecord .granted g r s) } := by
  have hframe := enterPowering_frame g r.cls s
  rw [← hw] at hframe
  have hhistory : w.history = s.history := by rw [hframe]
  have hmode : w.mode = s.mode := by rw [hframe]
  have hcharge : w.charge = s.charge := by rw [hframe]
  have hrec : grantFromOff r g s = w.recordRequest .granted g r := by
    rw [grantFromOff, ← hw]
    dsimp only
    split
    · exact absurd ‹_› hm
    · rfl
    · rfl
  rw [hrec]
  unfold State.recordRequest RequestRecord
  dsimp only
  rw [hhistory, hmode, hcharge]

/-- Settles O42: the storm test, the grant test, and the two ways to count a grant. -/
theorem wakeFromOffMeetsStormThenBudget : Obligations.WakeFromOffMeetsStormThenBudget := by
  intro r g s hp hs
  obtain ⟨hquarantine, hrefuse, hgrant⟩ := takeWakeGroup_off (r := r) hp hs
  refine ⟨fun hm h => ?_, fun hm h hg => ?_, fun v w hv hw => ?_⟩
  · rw [hquarantine]
    · rfl
    · rw [← Bool.not_eq_true, stormPasses_parked hm]
      omega
  · exact hrefuse ((stormPasses_parked hm).mpr h) hg
  · have hw' : w = enterPowering g r.cls s := by
      rw [hw, hv, enterPowering_eq]
      rfl
    refine ⟨fun hm h hg => ?_, fun hm => ?_⟩
    · rw [hgrant ((stormPasses_parked hm).mpr h) hg, grantFromOff_parked hm hw']
    · rw [hgrant (stormPasses_elsewhere hm) (grants_elsewhere hm), grantFromOff_elsewhere hm hw']

/-- A granted request in DRAINING takes the group back to RELEASING (R88). -/
theorem takeWakeGroup_draining {r : WakeRequest} {g : GroupId} {s : State} (hp : (s.params g).present = true)
    (hs : (s.group g).state = .draining) (hg : s.grants r.cls (costFromUp (s.params g)) = true) {c : Option WakeClass}
    (hc : lowerClass (s.group g).grantClass r.cls = c) :
    takeWakeGroup r g s = (enterReleasing g (s.setGroup g { s.group g with grantClass := c }), false) := by
  simp [takeWakeGroup, hp, hs, hg, hc]

/-- Settles O44: the two states of a group that is on, granted and refused. -/
theorem wakeInUpAndDraining : Obligations.WakeInUpAndDraining := by
  intro r g s c hp hc
  have hlower : lowerClass (s.group g).grantClass r.cls = some (min c r.cls) := by rw [hc]; rfl
  refine ⟨fun hs hg => ?_, fun hs hg ht => ?_, fun n hs hg ht => ?_, fun hs hg => ?_, fun hs hg => ?_⟩
  · simp [takeWakeGroup, hp, hs, hg]
  · simp [takeWakeGroup, hp, hs, hg, hlower, ht]
  · simp [takeWakeGroup, hp, hs, hg, hlower, ht]
  · simp [takeWakeGroup, hp, hs, hg]
    rfl
  · exact takeWakeGroup_draining hp hs hg hlower

/-! ### Records of a sequence of group steps -/

/-- Steps over groups, each of which writes at most the one record that its own group calls for, write the records in order. -/
theorem history_foldl {f : State → GroupId → State} {wr : State → GroupId → Option WakeRecord} {K : State → Prop}
    (hK : ∀ s g, K s → K (f s g)) (hstep : ∀ s g, K s → (f s g).history = s.history.pushAll (wr s g).toList)
    (hlocal : ∀ s g h, K s → h ≠ g → wr (f s g) h = wr s h) (l : List GroupId) (hl : l.Nodup) (s : State) (hs : K s) :
    (l.foldl f s).history = s.history.pushAll (l.filterMap (wr s)) := by
  induction l generalizing s with
  | nil => rfl
  | cons a l ih =>
    obtain ⟨ha, hl⟩ := List.nodup_cons.mp hl
    have hrest : l.filterMap (wr (f s a)) = l.filterMap (wr s) :=
      List.filterMap_congr fun g hg => hlocal s a g hs (fun e => ha (e ▸ hg))
    rw [List.foldl_cons, ih hl (f s a) (hK s a hs), hstep s a hs, hrest, WakeHistory.pushAll, WakeHistory.pushAll, WakeHistory.pushAll,
      ← List.foldl_append]
    cases hw : wr s a <;> simp [hw]

theorem filterMap_if {α β : Type} (p : α → Bool) (f : α → β) (l : List α) :
    l.filterMap (fun a => if p a then some (f a) else none) = (l.filter p).map f := by
  induction l with
  | nil => rfl
  | cons a l ih => by_cases h : p a = true <;> simp [h, ih]

/-- Exhaustion forces a group of class 1 to 3 that is POWERING, RELEASING or UP (R92). -/
def isForced (x : Group) : Bool := lowClass x && (x.state == .powering || x.state == .releasing || x.state == .up)

/-- The FORCED_DRAIN record that exhaustion writes for a group. -/
def forcedDrain (s : State) (g : GroupId) : Option WakeRecord :=
  if isForced (s.group g) then some (PlainRecord .forcedDrain g .supervision none none s) else none

theorem history_forceGroup (s : State) (g : GroupId) : (forceGroup s g).history = s.history.pushAll (forcedDrain s g).toList := by
  have hd : (enterDraining g s).history = s.history ∧ (enterDraining g s).mode = s.mode ∧ (enterDraining g s).charge = s.charge := by
    unfold enterDraining
    dsimp only
    split <;> exact ⟨rfl, rfl, rfl⟩
  unfold forceGroup forcedDrain isForced
  by_cases hl : lowClass (s.group g) = true
  · rw [if_pos hl, hl]
    cases hs : (s.group g).state with
    | powering => rfl
    | releasing | up =>
      unfold State.recordPlain
      dsimp only
      rw [hd.1, hd.2.1, hd.2.2]
      rfl
    | _ => rfl
  · rw [if_neg hl]
    simp [hl, WakeHistory.pushAll]

theorem PlainRecord_congr {s t : State} (hm : t.mode = s.mode) (hb : t.charge.bRem = s.charge.bRem) (o : WakeOutcome) (g : GroupId)
    (c : Cause) (src : Option Source) (f : Option FaultCause) : PlainRecord o g c src f t = PlainRecord o g c src f s := by
  unfold PlainRecord
  rw [hm, hb]

/-- The records of an exhaustion (R92). -/
theorem history_exhaust (s : State) :
    s.exhaust.history = s.history.pushAll
      ((allGroups.filter (fun g => isForced (s.group g))).map (fun g => PlainRecord .forcedDrain g .supervision none none s)) := by
  rw [← filterMap_if]
  refine history_foldl (K := fun _ => True) (wr := forcedDrain) (fun _ _ _ => trivial) (fun s g _ => history_forceGroup s g)
    (fun s g h _ hne => ?_) allGroups allGroups_nodup s trivial
  have hf := groupFrame_forceGroup s g
  unfold forcedDrain
  rw [group_forceGroup_ne s hne, PlainRecord_congr hf.mode (by rw [hf.charge])]

/-- A channel that exhaustion forces, by its state (R92). -/
theorem exhaustedChannel_cases (r : GroupParams) (x : Group) :
    (lowClass x = true → x.state = .powering → exhaustedChannel r x = offChannel x) ∧
    (lowClass x = true → (x.state = .releasing ∨ x.state = .up) → r.drain ≠ 0 →
      exhaustedChannel r x = { x with state := .draining, timer := .drain r.drain }) ∧
    (lowClass x = true → (x.state = .releasing ∨ x.state = .up) → r.drain = 0 → exhaustedChannel r x = offChannel x) ∧
    (lowClass x = false ∨ x.state = .draining ∨ x.state = .off ∨ x.state = .fault ∨ x.state = .quarantined →
      exhaustedChannel r x = x) := by
  unfold exhaustedChannel
  refine ⟨fun hl hs => ?_, fun hl hs hd => ?_, fun hl hs hd => ?_, fun h => ?_⟩
  · rw [if_pos hl, hs]
  · rcases hs with hs | hs <;> rw [if_pos hl, hs] <;> exact if_neg hd
  · rcases hs with hs | hs <;> rw [if_pos hl, hs] <;> exact if_pos hd
  · by_cases hl : lowClass x = true
    · rw [if_pos hl]
      rcases h with h | h | h | h | h
      · rw [h] at hl; cases hl
      all_goals rw [h]
    · rw [if_neg hl]

/-- Settles O45: the frame of an exhaustion, its records, and its channels. -/
theorem exhaustionForcesLowClasses : Obligations.ExhaustionForcesLowClasses := by
  refine fun s => ⟨groupFrame_exhaust s, portsFollow_exhaust s, ?_, fun g => ?_⟩
  · rw [history_exhaust, WakeHistory.pushAll, List.foldl_map]
    rfl
  · rw [group_exhaust]
    exact exhaustedChannel_cases (s.params g) (s.group g)

end Sys2Proof.Machine
end

section
/-! Mode entries: how DRIVE takes up a group, how PARKED lets it go, and the IGN edges that make the entries (R93, R94, R104, R105, R115,
R116, R120, R122). -/

namespace Sys2Proof.Machine

/-! ### A group taken up as drive-forced -/

theorem params_configured {s : State} (hm : s.mode.mode ≠ .unconfigured) (g : GroupId) : s.params g = s.activeBank.groupRecord g := by
  unfold State.params
  split
  · exact absurd ‹_› hm
  · rfl
  · rfl

theorem present_of_driveForced {m : Memory} {g : GroupId} (h : (m.groupRecord g).driveForced = true) : m.present g = true := by
  have hd : (m.groupRecord g).driveForced = (m.present g && (m.read (groupOffset g)).getLsbD 6) := rfl
  rw [hd, Bool.and_eq_true] at h
  exact h.1

/-- A drive-forced group in DRIVE enters RELEASING (R79, R80). -/
theorem group_enterReleasing_forced {g : GroupId} {s : State} (hm : s.mode.mode = .drive) (hf : (s.params g).driveForced = true) :
    (enterReleasing g s).group g = releasedChannel (s.params g) (s.pg.getLsbD g) (s.group g) := by
  unfold releasedChannel
  by_cases hk : (s.params g).pgMode = .wait ∧ s.pg.getLsbD g = false
  · rw [if_pos hk, enterReleasing_lost hk.1 hk.2, group_enterFault_self, group_releasingState]
    rfl
  · have hkept : (s.params g).pgMode = .wait → s.pg.getLsbD g = true := fun hw => by
      by_contra hp
      exact hk ⟨hw, by simpa using hp⟩
    rw [if_neg hk, enterReleasing_kept hkept]
    by_cases h0 : (s.params g).settle = 0
    · rw [if_pos h0, if_pos h0, enterUp, group_changeGroup_self, group_releasingState, upTimer_eq, if_pos (.inl ⟨hm, hf⟩)]
    · rw [if_neg h0, if_neg h0, group_releasingState]

/-- The entry into RELEASING sets its own timer. -/
theorem releasedChannel_timer (r : GroupParams) (pg : Bool) (x : Group) (t : SeqTimer) :
    releasedChannel r pg { x with timer := t } = releasedChannel r pg x := by
  unfold releasedChannel
  split
  · rfl
  · split <;> rfl

/-- A channel that class 0 takes to POWERING, without its timer. -/
def poweredChannel (x : Group) : Group := { x with state := .powering, grantClass := some 0, watch := false, faultGuard := 1 }

theorem forcedChannel_off {r : GroupParams} {pg : Bool} {x : Group} (hs : x.state = .off) :
    (∀ ms, r.pgMode = .delay ms → forcedChannel r pg x = { poweredChannel x with timer := .powerGoodDelay ms }) ∧
    (r.pgMode = .wait → pg = true → forcedChannel r pg x = releasedChannel r pg (poweredChannel x)) ∧
    (r.pgMode = .wait → pg = false → forcedChannel r pg x = { poweredChannel x with timer := .powerGoodWait r.pgTimeout }) := by
  unfold forcedChannel poweredChannel
  refine ⟨fun ms h => ?_, fun h hp => ?_, fun h hp => ?_⟩
  · simp [hs, h]
  · simp [hs, h, hp]
  · simp [hs, h, hp]

theorem group_enterPowering_forced {g : GroupId} {s : State} (hm : s.mode.mode = .drive) (hf : (s.params g).driveForced = true)
    (hs : (s.group g).state = .off) :
    (enterPowering g 0 s).group g = forcedChannel (s.params g) (s.pg.getLsbD g) (s.group g) := by
  have hself : (poweringState g 0 s).group g = { poweredChannel (s.group g) with timer := poweringTimer (s.params g) } :=
    group_changeGroup_self _ _ _
  have hrel : (enterReleasing g (poweringState g 0 s)).group g =
      releasedChannel (s.params g) (s.pg.getLsbD g) (poweredChannel (s.group g)) := by
    rw [group_enterReleasing_forced (s := poweringState g 0 s) hm hf, hself]
    exact releasedChannel_timer _ _ _ _
  obtain ⟨hdelay, hasserted, hwaiting⟩ := forcedChannel_off (r := s.params g) (pg := s.pg.getLsbD g) hs
  rw [enterPowering_eq]
  cases hw : (s.params g).pgMode with
  | wait =>
    by_cases hp : s.pg.getLsbD g = true
    · rw [if_pos ⟨rfl, hp⟩, hrel, hasserted hw hp]
    · rw [if_neg (fun h => hp h.2), hself, poweringTimer, hw, hwaiting hw (by simpa using hp)]
  | delay ms => rw [if_neg (fun h => by cases h.1), hself, poweringTimer, hw, hdelay ms hw]

theorem lowerClass_zero (held : Option WakeClass) : lowerClass held 0 = some 0 := by
  cases held with
  | none => rfl
  | some c => exact lowerClass_some_zero c

/-- The request of a mode entry for a present group in OFF, outside PARKED (R93). -/
theorem takeWakeGroup_mode_off {g : GroupId} {s : State} (hm : s.mode.mode ≠ .parked) (hp : (s.params g).present = true)
    (hs : (s.group g).state = .off) :
    (takeWakeGroup modeRequest g s).1 =
      { enterPowering g 0 s with history := s.history.push (RequestRecord .granted g modeRequest s) } := by
  rw [(takeWakeGroup_off hp hs).2.2 (stormPasses_elsewhere hm) (grants_elsewhere hm), grantFromOff_elsewhere hm rfl]
  rfl

theorem takeWakeGroup_mode_draining {g : GroupId} {s : State} (hm : s.mode.mode ≠ .parked) (hp : (s.params g).present = true)
    (hs : (s.group g).state = .draining) :
    (takeWakeGroup modeRequest g s).1 = enterReleasing g (s.setGroup g { s.group g with grantClass := some 0 }) := by
  rw [takeWakeGroup_draining hp hs (grants_elsewhere hm) (lowerClass_zero (s.group g).grantClass)]

/-- What DRIVE makes of a channel that it takes up as drive-forced (R93 step 3). -/
theorem group_driveForceGroup_forced {g : GroupId} {s : State} (hm : s.mode.mode = .drive) (hf : (s.params g).driveForced = true) :
    (driveForceGroup g s).group g = forcedChannel (s.params g) (s.pg.getLsbD g) (s.group g) := by
  have hparams := params_configured (s := s) (by rw [hm]; simp) g
  have hp : (s.params g).present = true := by
    rw [hparams] at hf ⊢
    exact present_of_driveForced hf
  have hnp : s.mode.mode ≠ .parked := by rw [hm]; simp
  unfold driveForceGroup
  cases hs : (s.group g).state with
  | off =>
    dsimp only
    rw [takeWakeGroup_mode_off hnp hp hs]
    exact group_enterPowering_forced hm hf hs
  | draining =>
    dsimp only
    rw [takeWakeGroup_mode_draining hnp hp hs, group_enterReleasing_forced (by exact hm) (by exact hf), group_setGroup_self,
      forcedChannel, hs]
    rfl
  | up | powering | releasing =>
    dsimp only
    rw [group_setGroup_self, forcedChannel, hs]
  | fault | quarantined =>
    dsimp only
    rw [forcedChannel, hs]

theorem history_driveForceGroup {g : GroupId} {s : State} (hm : s.mode.mode = .drive) (hf : (s.params g).driveForced = true) :
    (driveForceGroup g s).history =
      s.history.pushAll (forcedRecord (s.params g) (s.pg.getLsbD g) (s.group g) g s).toList := by
  have hparams := params_configured (s := s) (by rw [hm]; simp) g
  have hp : (s.params g).present = true := by
    rw [hparams] at hf ⊢
    exact present_of_driveForced hf
  have hnp : s.mode.mode ≠ .parked := by rw [hm]; simp
  unfold driveForceGroup forcedRecord
  cases hs : (s.group g).state with
  | off =>
    dsimp only
    rw [takeWakeGroup_mode_off hnp hp hs]
    rfl
  | draining =>
    dsimp only
    rw [takeWakeGroup_mode_draining hnp hp hs]
    by_cases hk : (s.params g).pgMode = .wait ∧ s.pg.getLsbD g = false
    · rw [if_pos hk, enterReleasing_lost (by exact hk.1) (by exact hk.2)]
      rfl
    · rw [if_neg hk, history_enterReleasing]
      · rfl
      · intro hw
        by_contra hpg
        exact hk ⟨hw, by simpa using hpg⟩
  | up | powering | releasing | fault | quarantined => rfl

/-! ### DRIVE entry -/

theorem driveEntryGroup_eq (s : State) (g : GroupId) :
    ∃ u : State, GroupFrame s u ∧ u.history = s.history ∧ u.group g = enteringChannel (s.group g) ∧
      driveEntryGroup s g = if (s.params g).driveForced then driveForceGroup g u else u := by
  unfold driveEntryGroup enteringChannel
  cases hs : (s.group g).state with
  | fault | quarantined => exact ⟨enterOff g s, rfl, rfl, group_enterOff_self g s, rfl⟩
  | off | powering | releasing | up | draining => exact ⟨s, .refl s, rfl, by simp, rfl⟩

theorem group_driveEntryGroup_self {g : GroupId} {s : State} (hm : s.mode.mode = .drive) :
    (driveEntryGroup s g).group g =
      if (s.params g).driveForced then forcedChannel (s.params g) (s.pg.getLsbD g) (enteringChannel (s.group g))
      else enteringChannel (s.group g) := by
  obtain ⟨u, hu, -, hg, he⟩ := driveEntryGroup_eq s g
  rw [he]
  by_cases hf : (s.params g).driveForced = true
  · rw [if_pos hf, if_pos hf, group_driveForceGroup_forced (by rw [hu.mode, hm]) (by rw [hu.params, hf]), hu.params, hu.keeps.pg, hg]
  · rw [if_neg hf, if_neg hf, hg]

theorem forcedRecord_congr {s t : State} (hm : t.mode = s.mode) (hb : t.charge.bRem = s.charge.bRem) (r : GroupParams) (pg : Bool)
    (x : Group) (g : GroupId) : forcedRecord r pg x g t = forcedRecord r pg x g s := by
  unfold forcedRecord RequestRecord PlainRecord
  rw [hm, hb]

/-- The record that a DRIVE entry writes for a group. -/
def entryRecord (s : State) (g : GroupId) : Option WakeRecord :=
  if (s.params g).driveForced then forcedRecord (s.params g) (s.pg.getLsbD g) (enteringChannel (s.group g)) g s else none

theorem history_driveEntryGroup {g : GroupId} {s : State} (hm : s.mode.mode = .drive) :
    (driveEntryGroup s g).history = s.history.pushAll (entryRecord s g).toList := by
  obtain ⟨u, hu, hh, hg, he⟩ := driveEntryGroup_eq s g
  rw [he, entryRecord]
  by_cases hf : (s.params g).driveForced = true
  · rw [if_pos hf, if_pos hf, history_driveForceGroup (by rw [hu.mode, hm]) (by rw [hu.params, hf]), hu.params, hu.keeps.pg, hg, hh,
      forcedRecord_congr hu.mode (by rw [hu.charge])]
  · rw [if_neg hf, if_neg hf, hh]
    rfl

/-- The state in which a DRIVE entry comes to the groups is in DRIVE. -/
theorem driveStart_mode (s : State) :
    (driveStart s).mode = { s.mode with mode := .drive, modeTime := 0, secondLeft := 1000, parkSettle := none } := by
  rw [(driveStart_fields s).1]
  rfl

/-- A DRIVE entry moves groups, ports, hold queue and history alone once it has come to the groups. -/
theorem groupFrame_driveGroups (s : State) : GroupFrame (driveStart s) (driveEntry s) := by
  have key : ∀ (l : List GroupId) (t : State), t.mode.mode = .drive → GroupFrame t (l.foldl driveEntryGroup t) := by
    intro l
    induction l with
    | nil => exact fun t _ => .refl t
    | cons g l ih =>
      intro t ht
      have hg := groupFrame_driveEntryGroup t g (by rw [ht]; simp)
      exact hg.trans (ih _ (by rw [hg.mode, ht]))
  rw [driveEntry_eq]
  exact key allGroups _ (by rw [driveStart_mode])

theorem group_driveStart (s : State) (g : GroupId) : (driveStart s).group g = s.group g := by
  rw [(driveStart_fields s).1]
  rfl

theorem history_driveStart (s : State) : (driveStart s).history = s.history := by
  rw [(driveStart_fields s).1]
  rfl

theorem pg_driveStart (s : State) : (driveStart s).pg = s.pg := by
  rw [(driveStart_fields s).1]
  rfl

theorem params_driveStart (s : State) (g : GroupId) : (driveStart s).params g = s.activeBank.groupRecord g := by
  rw [params_configured (by rw [driveStart_mode]; simp), (driveStart_fields s).1]
  rfl

/-- What holds while a DRIVE entry goes through the groups. -/
def EnteringDrive (s t : State) : Prop := GroupFrame (driveStart s) t ∧ t.mode.mode = .drive

theorem enteringDrive_step (s t : State) (g : GroupId) (h : EnteringDrive s t) : EnteringDrive s (driveEntryGroup t g) := by
  have hg := groupFrame_driveEntryGroup t g (by rw [h.2]; simp)
  exact ⟨h.1.trans hg, by rw [hg.mode, h.2]⟩

theorem enteringDrive_start (s : State) : EnteringDrive s (driveStart s) := ⟨.refl _, by rw [driveStart_mode]⟩

/-- R93: every channel after a DRIVE entry. -/
theorem group_driveEntry (s : State) (g : GroupId) :
    (driveEntry s).group g =
      if (s.activeBank.groupRecord g).driveForced then
        forcedChannel (s.activeBank.groupRecord g) (s.pg.getLsbD g) (enteringChannel (s.group g))
      else enteringChannel (s.group g) := by
  obtain ⟨u, hu, hg, he⟩ := group_foldl (f := driveEntryGroup) (K := EnteringDrive s) (fun t k h hne => group_driveEntryGroup_ne t k h hne)
    (enteringDrive_step s) allGroups allGroups_nodup (driveStart s) (enteringDrive_start s) g (mem_allGroups g)
  rw [driveEntry_eq, he, group_driveEntryGroup_self hu.2, hg, hu.1.params, hu.1.keeps.pg, group_driveStart, params_driveStart, pg_driveStart]

/-- The records of a DRIVE entry (R93). -/
theorem history_driveEntry (s : State) :
    (driveEntry s).history = s.history.pushAll
      ((allGroups.filter (fun g => (s.activeBank.groupRecord g).driveForced)).filterMap (fun g =>
        forcedRecord (s.activeBank.groupRecord g) (s.pg.getLsbD g) (enteringChannel (s.group g)) g (driveEntry s))) := by
  have hlocal : ∀ (t : State) (g h : GroupId), EnteringDrive s t → h ≠ g → entryRecord (driveEntryGroup t g) h = entryRecord t h := by
    intro t g h ht hne
    have hg := groupFrame_driveEntryGroup t g (by rw [ht.2]; simp)
    rw [entryRecord, entryRecord, hg.params, hg.keeps.pg, group_driveEntryGroup_ne t g h hne, forcedRecord_congr hg.mode (by rw [hg.charge])]
  have hrec : ∀ g, entryRecord (driveStart s) g =
      if (s.activeBank.groupRecord g).driveForced then
        forcedRecord (s.activeBank.groupRecord g) (s.pg.getLsbD g) (enteringChannel (s.group g)) g (driveEntry s) else none := by
    intro g
    have hf := groupFrame_driveGroups s
    rw [entryRecord, params_driveStart, pg_driveStart, group_driveStart, forcedRecord_congr hf.mode (by rw [hf.charge])]
  have hfold := history_foldl (K := EnteringDrive s) (wr := entryRecord) (enteringDrive_step s) (fun t g ht => history_driveEntryGroup ht.2)
    hlocal allGroups allGroups_nodup (driveStart s) (enteringDrive_start s)
  rw [driveEntry_eq, hfold, history_driveStart, List.filterMap_filter, ← driveEntry_eq]
  exact congrArg _ (List.filterMap_congr fun g _ => hrec g)

/-! ### The edge of IGN -/

theorem ign_takeEdge (n : Nat) (s : State) :
    (takeEdge .ign n s).lines.ign = { pin := s.lines.ign.pin, level := s.lines.ign.pin, prev := s.lines.ign.level, debounce := none } := rfl

theorem portsFollow_takeEdge (l : InputLine) (n : Nat) (s : State) : PortsFollow (s.elapse n) (takeEdge l n s) :=
  .of_eq (ports_setLine _ _ _) (hold_setLine _ _ _)

/-- What an IGN edge changes besides the line is what the mode entry changes after the time that passes. -/
theorem takeEdge_ign_frame (n : Nat) (s : State) : takeEdge .ign n s = { s.elapse n with lines := (takeEdge .ign n s).lines } := rfl

theorem exec_ignEdge_rising {s : State} {n : Nat} (h : s.lines.ign.debounce = some n) (hpin : s.lines.ign.pin = true)
    (hm : s.mode.mode = .parked) : exec .ignEdge s = .next (driveEntry (takeEdge .ign n s)) := by
  have hmode : (takeEdge .ign n s).mode.mode = .parked := hm
  have hlevel : (takeEdge .ign n s).lines.ign.level = true := hpin
  rw [exec_ignEdge h, ignEdgeTaken, hmode, hlevel]

theorem exec_ignEdge_falling {s : State} {n : Nat} (h : s.lines.ign.debounce = some n) (hpin : s.lines.ign.pin = false)
    (hm : s.mode.mode = .drive) : exec .ignEdge s = .next (parkedEntry (takeEdge .ign n s)) := by
  have hmode : (takeEdge .ign n s).mode.mode = .drive := hm
  have hlevel : (takeEdge .ign n s).lines.ign.level = false := hpin
  rw [exec_ignEdge h, ignEdgeTaken, hmode, hlevel]

/-- The account after a DRIVE entry: the final settlement where PARKED is left, and else what it was (R104, R122). -/
theorem charge_driveEntry (s : State) :
    (driveEntry s).charge = if s.mode.mode = .parked then (finalSettlement s).charge else s.charge := by
  rw [(groupFrame_driveGroups s).charge, (driveStart_fields s).2]

theorem charge_finalSettlement {s : State} {left : Nat} (h : s.charge.timer = some left) :
    (finalSettlement s).charge = { settleAccount s.activeBank (1000 - left) s.charge with timer := none } := by
  rw [finalSettlement, h]
  rfl

theorem stormOf_driveEntry (s : State) (g : GroupId) : (driveEntry s).stormOf g = StormRecord.atPowerOn := by
  rw [State.stormOf, storm_driveEntry, tabGroups_get]

/-- Settles O22: the DRIVE entry of the state after the edge, block by block. -/
theorem ignitionOnEntersDrive : Obligations.IgnitionOnEntersDrive := by
  intro s n left total debit h hpin hm ht htotal hdebit
  have hk := driveEntry_keeps (takeEdge .ign n s)
  have hcharge : (driveEntry (takeEdge .ign n s)).charge = (finalSettlement (takeEdge .ign n s)).charge := by
    rw [charge_driveEntry, if_pos (by exact hm)]
  have htimer : (takeEdge .ign n s).charge.timer = some (left - n) := by
    rw [takeEdge_ign_frame]
    exact congrArg (passTimer n) ht
  refine ⟨_, exec_ignEdge_rising h hpin hm, driveEntry_mode _, ?_, hk.store, hk.pg, hk.agent,
    (portsFollow_takeEdge .ign n s).trans (portsFollow_driveEntry _), ?_, fun g => stormOf_driveEntry _ g, fun g => ?_, ?_⟩
  · rw [hk.lines, ign_takeEdge, hpin]
  · rw [hcharge, charge_finalSettlement htimer,
      settleAccount_eq (m := (takeEdge .ign n s).activeBank) (a := (takeEdge .ign n s).charge) htotal hdebit]
    rfl
  · rw [group_driveEntry]
    rfl
  · rw [history_driveEntry]
    rfl

/-! ### PARKED entry -/

/-- R94: a suspended linger of a drive-forced group starts. -/
theorem group_startLinger_self (g : GroupId) (n : Nat) (s : State) :
    (startLinger g n s).group g =
      if (s.group g).state = .up ∧ (s.group g).timer = .stopped then { s.group g with timer := .linger n } else s.group g := by
  unfold startLinger
  split
  · rw [group_setGroup_self, if_pos ⟨‹_›, ‹_›⟩]
  · rw [if_neg]
    rintro ⟨hs, ht⟩
    simp_all

theorem group_parkedEntryGroup_self (s : State) (g : GroupId) :
    (parkedEntryGroup s g).group g =
      if (s.params g).driveForced = true ∧ (s.group g).state = .up ∧ (s.group g).timer = .stopped then
        { s.group g with timer := .linger (s.params g).tmin } else s.group g := by
  unfold parkedEntryGroup
  by_cases hf : (s.params g).driveForced = true
  · rw [if_pos hf, group_startLinger_self]
    simp only [hf, true_and]
  · rw [if_neg hf, if_neg (fun h => hf h.1)]

theorem group_parkedEntryGroup_ne {g h : GroupId} (s : State) (hne : h ≠ g) : (parkedEntryGroup s g).group h = s.group h := by
  unfold parkedEntryGroup
  split
  · exact group_startLinger_ne _ s hne
  · rfl

theorem parkedStart_mode (s : State) :
    (parkedStart s).mode =
      { s.mode with mode := .parked, modeTime := 0, secondLeft := 1000, parkSettle := some (s.activeBank.parkSettle * 1000) } := rfl

theorem parkedStart_params (s : State) (g : GroupId) : (parkedStart s).params g = s.activeBank.groupRecord g := rfl

theorem groupFrame_parkedSpent (s : State) : GroupFrame (parkedStart s) (parkedSpent s) := by
  unfold parkedSpent
  split
  · exact groupFrame_exhaust _
  · exact .refl _

theorem group_parkedSpent (s : State) (g : GroupId) :
    (parkedSpent s).group g =
      if s.activeBank.parkBudget = 0 then exhaustedChannel (s.activeBank.groupRecord g) (s.group g) else s.group g := by
  unfold parkedSpent
  split
  · rw [group_exhaust, parkedStart_params]
    rfl
  · rfl

/-- R94, R116: every channel after a PARKED entry. -/
theorem group_parkedEntry (s : State) (g : GroupId) :
    (parkedEntry s).group g =
      parkedChannel (s.activeBank.groupRecord g) (decide (s.activeBank.parkBudget = 0)) (s.group g) := by
  obtain ⟨u, hu, hg, he⟩ := group_foldl (f := parkedEntryGroup) (K := GroupFrame (parkedStart s))
    (fun t k _ hne => group_parkedEntryGroup_ne t hne) (fun t k ht => ht.trans (groupFrame_parkedEntryGroup t k)) allGroups
    allGroups_nodup (parkedSpent s) (groupFrame_parkedSpent s) g (mem_allGroups g)
  rw [parkedEntry_eq, he, group_parkedEntryGroup_self, hg, hu.params, parkedStart_params, group_parkedSpent, parkedChannel]
  simp only [decide_eq_true_eq]

/-- The lingers that a PARKED entry starts touch neither ports nor hold queue nor history. -/
theorem parkedEntry_traffic (s : State) :
    (parkedEntry s).ports = (parkedSpent s).ports ∧ (parkedEntry s).hold = (parkedSpent s).hold ∧
    (parkedEntry s).history = (parkedSpent s).history := by
  have step : ∀ (t : State) (g : GroupId), (parkedEntryGroup t g).ports = t.ports ∧ (parkedEntryGroup t g).hold = t.hold ∧
      (parkedEntryGroup t g).history = t.history := by
    intro t g
    unfold parkedEntryGroup startLinger
    split
    · split <;> exact ⟨rfl, rfl, rfl⟩
    · exact ⟨rfl, rfl, rfl⟩
  have key : ∀ (l : List GroupId) (t : State), (l.foldl parkedEntryGroup t).ports = t.ports ∧
      (l.foldl parkedEntryGroup t).hold = t.hold ∧ (l.foldl parkedEntryGroup t).history = t.history := by
    intro l
    induction l with
    | nil => exact fun t => ⟨rfl, rfl, rfl⟩
    | cons g l ih =>
      intro t
      obtain ⟨hp, hh, hr⟩ := ih (parkedEntryGroup t g)
      obtain ⟨kp, kh, kr⟩ := step t g
      exact ⟨hp.trans kp, hh.trans kh, hr.trans kr⟩
  rw [parkedEntry_eq]
  exact key allGroups _

/-- The records of a PARKED entry (R116). -/
theorem history_parkedEntry (s : State) :
    (parkedEntry s).history =
      if s.activeBank.parkBudget = 0 then s.history.pushAll (drainRecords s.group (parkedEntry s)) else s.history := by
  rw [(parkedEntry_traffic s).2.2, parkedSpent]
  split
  · rw [history_exhaust, drainRecords]
    have hrec : ∀ g, PlainRecord .forcedDrain g .supervision none none (parkedEntry s) =
        PlainRecord .forcedDrain g .supervision none none (parkedStart s) := fun g =>
      PlainRecord_congr ((parkedEntry_mode s).trans (parkedStart_mode s).symm) (by rw [parkedEntry_charge]; rfl) _ _ _ _ _
    simp only [hrec]
    rfl
  · rfl

/-- The level and thresholds of a freshly loaded account (R115). -/
theorem parkAccount_eq (m : Memory) (a : ChargeAccount) :
    parkAccount m a =
      { loaded := true, pActive := m.parkBudget, bRem := m.parkBudget, spent := 0, cut := 0,
        shortfall := 0, carry := 0, drawn := #v[0, 0, 0, 0, 0, 0, 0, 0], inrush := 0,
        l1 := m.parkBudget * m.q1 / 65536, l2 := m.parkBudget * m.q2 / 65536, l3 := m.parkBudget * m.q3 / 65536,
        level := levelOf m.parkBudget (m.parkBudget * m.q2 / 65536) (m.parkBudget * m.q3 / 65536),
        timer := some 1000 } := rfl

theorem spared_parkedChannel (r : GroupParams) (x : Group) : Spared (parkedChannel r true x) := by
  have hspared := spared_exhaustedChannel r x
  unfold parkedChannel
  simp only [if_true]
  split
  · exact hspared
  · exact hspared

/-- `sync` reads ports, hold queue, awakeness and prospects alone. -/
theorem sync_congr {s t : State} (hp : t.ports = s.ports) (hh : t.hold = s.hold) (ha : ∀ p, t.awake p = s.awake p)
    (hq : ∀ p, t.prospects p = s.prospects p) : t.sync.ports = s.sync.ports ∧ t.sync.hold = s.sync.hold := by
  have hport : ∀ p, t.port p = s.port p := fun p => by rw [State.port, hp]; rfl
  have hheld : ∀ p, t.heldFor p = s.heldFor p := fun p => by rw [State.heldFor, hh]; rfl
  constructor
  · refine vector_ext_get fun p => ?_
    have hs := port_sync s p
    have ht := port_sync t p
    rw [ha, hq, hport, hheld, ← hs] at ht
    exact ht
  · rw [hold_sync, hold_sync, hh]
    simp only [hq]

/-- Entering PARKED from DRIVE, awakeness and prospects stay, so `sync` does what it would do before. -/
theorem sync_parkedStart {s u : State} (hm : s.mode.mode = .drive) (hu : u = { s with lines := u.lines }) :
    (parkedStart u).ports = s.sync.ports ∧ (parkedStart u).hold = s.sync.hold := by
  let v : State :=
    { u with mode := { u.mode with mode := .parked, modeTime := 0, secondLeft := 1000,
                                   parkSettle := some (u.activeBank.parkSettle * 1000) } }
  have hbound : ∀ g, v.boundPort g = s.boundPort g := by
    intro g
    have hs : s.params g = s.activeBank.groupRecord g := params_configured (by rw [hm]; simp) g
    have hv : v.params g = u.activeBank.groupRecord g := rfl
    rw [State.boundPort, State.boundPort, hs, hv, hu]
    rfl
  have hgroup : ∀ g, v.group g = s.group g := fun g => by
    change u.group g = s.group g
    rw [hu]
    rfl
  have hwakes : ∀ g p, v.groupWakes g p = s.groupWakes g p := fun g p => by
    rw [State.groupWakes, State.groupWakes, hbound, hgroup, hm]
    rfl
  have hlinger : v.agent.linger = s.agent.linger := by
    change u.agent.linger = s.agent.linger
    rw [hu]
  have h := sync_congr (s := s) (t := v) (by change u.ports = s.ports; rw [hu]) (by change u.hold = s.hold; rw [hu])
    (fun p => by simp only [State.awake, hwakes, hlinger]) (fun p => by simp only [State.prospects, hbound, hgroup])
  exact h

theorem stormOf_parkedEntry (s : State) (g : GroupId) :
    (parkedEntry s).stormOf g = { s.stormOf g with count := 0, window := none } := by
  have hf : GroupFrame (parkedStart s) (parkedEntry s) := by
    rw [parkedEntry_eq]
    exact (groupFrame_parkedSpent s).trans (foldl_frame GroupFrame.refl GroupFrame.trans groupFrame_parkedEntryGroup allGroups _)
  have hs : (parkedStart s).stormOf g = { s.stormOf g with count := 0, window := none } := tabGroups_get _ g
  rw [← hs, hf]
  rfl

/-- Settles O23: the PARKED entry of the state after the edge, block by block. -/
theorem ignitionOffEntersParked : Obligations.IgnitionOffEntersParked := by
  intro s n h hpin hm
  have hk := parkedEntry_keeps (takeEdge .ign n s)
  have hgroup : ∀ g, (parkedEntry (takeEdge .ign n s)).group g =
      parkedChannel (s.activeBank.groupRecord g) (decide (s.activeBank.parkBudget = 0)) ((s.elapse n).group g) :=
    fun g => group_parkedEntry (takeEdge .ign n s) g
  have hhistory : (parkedEntry (takeEdge .ign n s)).history =
      if s.activeBank.parkBudget = 0 then s.history.pushAll (drainRecords (s.elapse n).group (parkedEntry (takeEdge .ign n s)))
      else s.history := history_parkedEntry (takeEdge .ign n s)
  obtain ⟨hports, hhold, -⟩ := parkedEntry_traffic (takeEdge .ign n s)
  refine ⟨_, exec_ignEdge_falling h hpin hm, parkedEntry_mode _, ?_, hk.store, hk.pg, hk.agent,
    (portsFollow_takeEdge .ign n s).trans (portsFollow_parkedEntry _), ?_, fun g => ?_, fun h0 => ⟨?_, ?_, ?_⟩, fun h0 => ?_, hgroup,
    fun h0 g => ?_⟩
  · rw [hk.lines, ign_takeEdge, hpin]
  · rw [parkedEntry_charge, parkAccount_eq, levelOf]
    rfl
  · rw [stormOf_parkedEntry]
    exact ⟨rfl, rfl⟩
  · obtain ⟨kp, -⟩ := sync_parkedStart (s := s.elapse n) hm (takeEdge_ign_frame n s)
    rw [hports, parkedSpent, if_neg (by exact h0), kp]
  · obtain ⟨-, kh⟩ := sync_parkedStart (s := s.elapse n) hm (takeEdge_ign_frame n s)
    rw [hhold, parkedSpent, if_neg (by exact h0), kh]
  · rw [hhistory, if_neg h0]
  · rw [hhistory, if_pos h0]
  · rw [hgroup, decide_eq_true h0]
    exact spared_parkedChannel _ _

end Sys2Proof.Machine
end

section
/-! The swap: what it does to the banks, the account, the storm records and the groups, later and first (R33 to R36, R99, R107, R157). -/

namespace Sys2Proof.Machine

/-! ### The banks change their roles -/

theorem exchangeBanks_activeBank (s : State) : (exchangeBanks s).activeBank = s.store.standbyBank := exchange_active s.store

theorem exchangeBanks_charge (s : State) :
    (exchangeBanks s).charge =
      { s.charge with
        l1 := s.charge.pActive * s.store.standbyBank.q1 / 65536, l2 := s.charge.pActive * s.store.standbyBank.q2 / 65536,
        l3 := s.charge.pActive * s.store.standbyBank.q3 / 65536,
        level := if s.charge.loaded then
            levelOf s.charge.bRem (s.charge.pActive * s.store.standbyBank.q2 / 65536) (s.charge.pActive * s.store.standbyBank.q3 / 65536)
          else s.charge.level } := by
  rw [← exchange_active s.store]
  exact relevel_eq _

theorem exchangeBanks_stormOf (s : State) (g : GroupId) :
    (exchangeBanks s).stormOf g = { s.stormOf g with count := min (s.stormOf g).count s.store.standbyBank.stormLimit } := by
  rw [← exchange_active s.store]
  exact tabGroups_get _ g

/-! ### Absent groups -/

/-- Switching absent groups off changes ports, hold queue, groups and storm records, and nothing else. -/
def ClearFrame (s t : State) : Prop := t = { s with ports := t.ports, hold := t.hold, groups := t.groups, storm := t.storm }

theorem ClearFrame.refl (s : State) : ClearFrame s s := rfl

theorem ClearFrame.trans {s t u : State} (h : ClearFrame s t) (k : ClearFrame t u) : ClearFrame s u := by
  unfold ClearFrame at *
  rw [k]
  rw [h]

theorem clearFrame_clearAbsentGroup (s : State) (g : GroupId) : ClearFrame s (clearAbsentGroup s g) := by
  unfold clearAbsentGroup
  split <;> rfl

/-- Every group that is not present is switched off (R36, R99 step 1). -/
def clearAbsent (s : State) : State := allGroups.foldl clearAbsentGroup s

theorem clearFrame_clearAbsent (s : State) : ClearFrame s (clearAbsent s) :=
  foldl_frame ClearFrame.refl ClearFrame.trans clearFrame_clearAbsentGroup allGroups s

theorem stormOf_clearAbsentGroup (s : State) (g h : GroupId) :
    (clearAbsentGroup s g).stormOf h = if h = g ∧ s.activeBank.present g = false then StormRecord.atPowerOn else s.stormOf h := by
  unfold clearAbsentGroup
  by_cases hp : s.activeBank.present g = true
  · rw [if_pos hp, if_neg (by rw [hp]; simp)]
  · rw [if_neg hp]
    by_cases he : h = g
    · subst he
      rw [stormOf_setStorm_self, if_pos ⟨rfl, by simpa using hp⟩]
    · rw [stormOf_setStorm_ne _ _ he, if_neg (fun k => he k.1)]
      rfl

theorem stormOf_clearAbsent (s : State) (g : GroupId) :
    (clearAbsent s).stormOf g = if s.activeBank.present g then s.stormOf g else StormRecord.atPowerOn := by
  have key : ∀ (l : List GroupId) (t : State), t.activeBank = s.activeBank →
      (l.foldl clearAbsentGroup t).stormOf g =
        if g ∈ l ∧ s.activeBank.present g = false then StormRecord.atPowerOn else t.stormOf g := by
    intro l
    induction l with
    | nil => intro t _; simp
    | cons a l ih =>
      intro t ht
      rw [List.foldl_cons, ih _ ((wakeFrame_clearAbsentGroup t a).activeBank.trans ht), stormOf_clearAbsentGroup, ht]
      by_cases he : g = a
      · subst he
        by_cases hp : s.activeBank.present g = false <;> simp [hp]
      · simp [he]
  rw [clearAbsent, key allGroups s rfl]
  by_cases hp : s.activeBank.present g = true <;> simp [hp, mem_allGroups]

/-! ### A later swap -/

theorem takeSwap_later {s : State} (h : s.mode.configured = true) : takeSwap s = laterSwap s.activeBank (exchangeBanks s) := if_pos h

theorem takeSwap_first {s : State} (h : s.mode.configured = false) : takeSwap s = firstSwap (exchangeBanks s) :=
  if_neg (by rw [h]; simp)

theorem laterSwap_elsewhere {old : Memory} {s : State} (hm : s.mode.mode ≠ .drive) : laterSwap old s = clearAbsent s.sync := by
  unfold laterSwap
  split
  · exact absurd ‹_› hm
  · rfl
  · rfl

theorem laterSwap_drive {old : Memory} {s : State} (hm : s.mode.mode = .drive) :
    laterSwap old s = allGroups.foldl (changeForced old) (clearAbsent s.sync) := by
  unfold laterSwap
  rw [hm]
  rfl

theorem groupFrame_changeForced {old : Memory} {s : State} (hm : s.mode.mode = .drive) (g : GroupId) :
    GroupFrame s (changeForced old s g) := by
  unfold changeForced
  split
  · exact groupFrame_driveForceGroup g s (by rw [hm]; simp)
  · exact groupFrame_startLinger _ _ _
  · exact .refl s
  · exact .refl s

theorem group_changeForced_ne {old : Memory} {g h : GroupId} (s : State) (hne : h ≠ g) : (changeForced old s g).group h = s.group h := by
  unfold changeForced
  split
  · exact group_driveForceGroup_ne s hne
  · exact group_startLinger_ne _ s hne
  · rfl
  · rfl

/-- What a later swap in DRIVE does to a channel, by the drive-forced flags of the old and the new table (R36). -/
theorem group_changeForced_self {old : Memory} {s : State} {g : GroupId} (hm : s.mode.mode = .drive) :
    ((old.groupRecord g).driveForced = (s.activeBank.groupRecord g).driveForced → (changeForced old s g).group g = s.group g) ∧
    ((old.groupRecord g).driveForced = true → (s.activeBank.groupRecord g).driveForced = false →
      (changeForced old s g).group g =
        if (s.group g).state = .up ∧ (s.group g).timer = .stopped then
          { s.group g with timer := .linger (s.activeBank.groupRecord g).tmin } else s.group g) ∧
    ((old.groupRecord g).driveForced = false → (s.activeBank.groupRecord g).driveForced = true →
      (changeForced old s g).group g = forcedChannel (s.activeBank.groupRecord g) (s.pg.getLsbD g) (s.group g)) := by
  have hparams := params_configured (s := s) (by rw [hm]; simp) g
  unfold changeForced
  refine ⟨fun h => ?_, fun ho hn => ?_, fun ho hn => ?_⟩
  · rw [h]
    cases (s.activeBank.groupRecord g).driveForced <;> rfl
  · rw [ho, hn]
    exact group_startLinger_self g _ s
  · rw [ho, hn, ← hparams]
    exact group_driveForceGroup_forced hm (by rw [hparams, hn])

/-- The record that a later swap in DRIVE writes for a group. -/
def changeRecord (old : Memory) (s : State) (g : GroupId) : Option WakeRecord :=
  if !(old.groupRecord g).driveForced && (s.activeBank.groupRecord g).driveForced then
    forcedRecord (s.activeBank.groupRecord g) (s.pg.getLsbD g) (s.group g) g s else none

theorem history_startLinger (g : GroupId) (n : Nat) (s : State) : (startLinger g n s).history = s.history := by
  unfold startLinger
  split <;> rfl

theorem history_changeForced {old : Memory} {s : State} {g : GroupId} (hm : s.mode.mode = .drive) :
    (changeForced old s g).history = s.history.pushAll (changeRecord old s g).toList := by
  have hparams := params_configured (s := s) (by rw [hm]; simp) g
  unfold changeForced changeRecord
  cases ho : (old.groupRecord g).driveForced <;> cases hn : (s.activeBank.groupRecord g).driveForced
  · rfl
  · dsimp only
    rw [history_driveForceGroup hm (by rw [hparams, hn]), hparams]
    rfl
  · exact history_startLinger _ _ _
  · rfl

/-- What holds while a later swap in DRIVE goes through the groups. -/
def ChangingForced (u t : State) : Prop := GroupFrame u t ∧ t.mode.mode = .drive

theorem changingForced_step {old : Memory} (u t : State) (g : GroupId) (h : ChangingForced u t) : ChangingForced u (changeForced old t g) := by
  have hg := groupFrame_changeForced (old := old) h.2 g
  exact ⟨h.1.trans hg, by rw [hg.mode, h.2]⟩

theorem groupFrame_changeAll {old : Memory} {u : State} (hm : u.mode.mode = .drive) :
    GroupFrame u (allGroups.foldl (changeForced old) u) := by
  have key : ∀ (l : List GroupId) (t : State), ChangingForced u t → ChangingForced u (l.foldl (changeForced old) t) := by
    intro l
    induction l with
    | nil => exact fun _ h => h
    | cons g l ih => exact fun t h => ih _ (changingForced_step u t g h)
  exact (key allGroups u ⟨.refl u, hm⟩).1

theorem GroupFrame.activeBank {s t : State} (h : GroupFrame s t) : t.activeBank = s.activeBank := h.wake.activeBank

theorem group_changeAll {old : Memory} {u : State} (hm : u.mode.mode = .drive) (g : GroupId) :
    ∃ v : State, ChangingForced u v ∧ v.group g = u.group g ∧
      (allGroups.foldl (changeForced old) u).group g = (changeForced old v g).group g :=
  group_foldl (fun t _ _ hne => group_changeForced_ne t hne) (changingForced_step u) allGroups allGroups_nodup u ⟨.refl u, hm⟩ g
    (mem_allGroups g)

theorem history_changeAll {old : Memory} {u : State} (hm : u.mode.mode = .drive) :
    (allGroups.foldl (changeForced old) u).history = u.history.pushAll (allGroups.filterMap (changeRecord old u)) := by
  refine history_foldl (K := ChangingForced u) (changingForced_step u) (fun t g ht => history_changeForced ht.2) (fun t g h ht hne => ?_)
    allGroups allGroups_nodup u ⟨.refl u, hm⟩
  have hg := groupFrame_changeForced (old := old) ht.2 g
  rw [changeRecord, changeRecord, hg.activeBank, hg.keeps.pg, group_changeForced_ne t hne, forcedRecord_congr hg.mode (by rw [hg.charge])]

/-! ### The first swap -/

theorem group_startFallbackLinger_self (s : State) (g : GroupId) :
    (startFallbackLinger s g).group g =
      if s.mode.fb = true ∧ s.activeBank.present g = true ∧ (s.group g).state = .up ∧ (s.group g).timer = .stopped then
        { s.group g with timer := .linger (s.activeBank.groupRecord g).tmin } else s.group g := by
  unfold startFallbackLinger State.fallbackAwake
  by_cases h : (s.mode.fb && s.activeBank.present g) = true
  · rw [if_pos h, group_startLinger_self]
    rw [Bool.and_eq_true] at h
    simp only [h.1, h.2, true_and]
  · rw [if_neg h, if_neg]
    rw [Bool.and_eq_true] at h
    exact fun k => h ⟨k.1, k.2.1⟩

theorem group_startFallbackLinger_ne {g h : GroupId} (s : State) (hne : h ≠ g) : (startFallbackLinger s g).group h = s.group h := by
  unfold startFallbackLinger
  split
  · exact group_startLinger_ne _ s hne
  · rfl

/-- The state after the absent groups are off at the first swap. -/
def firstCleared (s : State) : State := clearAbsent { s with mode := { s.mode with configured := true } }

theorem clearFrame_firstCleared (s : State) : ClearFrame { s with mode := { s.mode with configured := true } } (firstCleared s) :=
  clearFrame_clearAbsent _

theorem groupFrame_firstSwapStart (s : State) : GroupFrame (firstCleared s) (firstSwapStart s) :=
  foldl_frame GroupFrame.refl GroupFrame.trans groupFrame_startFallbackLinger allGroups _

theorem history_firstSwapStart (s : State) : (firstSwapStart s).history = s.history := by
  have key : ∀ (l : List GroupId) (t : State), (l.foldl startFallbackLinger t).history = t.history := by
    intro l
    induction l with
    | nil => exact fun _ => rfl
    | cons g l ih =>
      intro t
      rw [List.foldl_cons, ih]
      unfold startFallbackLinger
      split
      · exact history_startLinger _ _ _
      · rfl
  have hc := clearFrame_firstCleared s
  unfold ClearFrame at hc
  exact (key allGroups (firstCleared s)).trans (by rw [hc])

/-- The items of the first swap before its mode entry that absent groups and lingers do not reach. -/
theorem firstSwapStart_fields (s : State) :
    (firstSwapStart s).mode = { s.mode with configured := true } ∧ (firstSwapStart s).charge = s.charge ∧
    (firstSwapStart s).lines = s.lines ∧ (firstSwapStart s).pg = s.pg ∧ (firstSwapStart s).activeBank = s.activeBank := by
  have hg := groupFrame_firstSwapStart s
  have hc := clearFrame_firstCleared s
  unfold ClearFrame at hc
  have hbank : (firstCleared s).activeBank = s.activeBank := by rw [hc]; rfl
  exact ⟨hg.mode.trans (by rw [hc]), hg.charge.trans (by rw [hc]), hg.keeps.lines.trans (by rw [hc]), hg.keeps.pg.trans (by rw [hc]),
    hg.activeBank.trans hbank⟩

/-- What the first swap keeps of a channel (R99). -/
theorem group_firstSwapStart (s : State) (g : GroupId) :
    (firstSwapStart s).group g =
      if s.activeBank.present g = false then offChannel (s.group g)
      else if s.mode.fb = true ∧ (s.group g).state = .up ∧ (s.group g).timer = .stopped then
        { s.group g with timer := .linger (s.activeBank.groupRecord g).tmin }
      else s.group g := by
  have hc := clearFrame_firstCleared s
  unfold ClearFrame at hc
  have hbank : (firstCleared s).activeBank = s.activeBank := by rw [hc]; rfl
  have hfb : (firstCleared s).mode.fb = s.mode.fb := by rw [hc]
  have hgroup : (firstCleared s).group g = if s.activeBank.present g then s.group g else offChannel (s.group g) :=
    group_clearAbsent { s with mode := { s.mode with configured := true } } g
  obtain ⟨u, hu, hg, he⟩ := group_foldl (f := startFallbackLinger) (K := GroupFrame (firstCleared s))
    (fun t _ _ hne => group_startFallbackLinger_ne t hne) (fun t k ht => ht.trans (groupFrame_startFallbackLinger t k)) allGroups
    allGroups_nodup (firstCleared s) (.refl _) g (mem_allGroups g)
  have hstart : (firstSwapStart s).group g = (startFallbackLinger u g).group g := he
  rw [hstart, group_startFallbackLinger_self, hg, hu.mode, hu.activeBank, hbank, hfb, hgroup]
  by_cases hp : s.activeBank.present g = true
  · simp only [hp, if_true, true_and, Bool.true_eq_false, if_false]
  · have hp' : s.activeBank.present g = false := by simpa using hp
    simp only [hp', Bool.false_eq_true, if_false, false_and, and_false, if_true]

theorem stormOf_firstSwapStart (s : State) (g : GroupId) :
    (firstSwapStart s).stormOf g = if s.activeBank.present g then s.stormOf g else StormRecord.atPowerOn := by
  have hs : (firstSwapStart s).stormOf g = (firstCleared s).stormOf g := by
    rw [State.stormOf, (groupFrame_firstSwapStart s).storm]
    rfl
  rw [hs]
  exact stormOf_clearAbsent { s with mode := { s.mode with configured := true } } g

/-! ### The swap, item by item -/

/-- A group that a bank does not hold is not drive-forced by it. -/
theorem driveForced_absent {m : Memory} {g : GroupId} (h : m.present g = false) : (m.groupRecord g).driveForced = false := by
  rw [← Bool.not_eq_true]
  exact fun hf => by rw [present_of_driveForced hf] at h; cases h

theorem enteringChannel_off (x : Group) : enteringChannel (offChannel x) = offChannel x := by
  rw [enteringChannel, if_neg (by simp [offChannel])]

theorem parkedChannel_off {r : GroupParams} (h : r.driveForced = false) (spent : Bool) (x : Group) :
    parkedChannel r spent (offChannel x) = offChannel x := by
  have he : exhaustedChannel r (offChannel x) = offChannel x := if_neg (by simp [lowClass, offChannel])
  unfold parkedChannel
  simp only [he, ite_self, h, Bool.false_eq_true, false_and, if_false]

/-- The groups after the absent ones of the new table are off, before a later swap in DRIVE comes to their flags. -/
def laterCleared (s : State) : State := clearAbsent (exchangeBanks s).sync

theorem laterCleared_fields (s : State) :
    (laterCleared s).mode = s.mode ∧ (laterCleared s).charge = (exchangeBanks s).charge ∧ (laterCleared s).history = s.history ∧
    (laterCleared s).pg = s.pg ∧ (laterCleared s).activeBank = s.store.standbyBank := by
  have hc := clearFrame_clearAbsent (exchangeBanks s).sync
  unfold ClearFrame at hc
  unfold laterCleared
  rw [hc]
  exact ⟨rfl, rfl, rfl, rfl, exchangeBanks_activeBank s⟩

theorem group_laterCleared (s : State) (g : GroupId) :
    (laterCleared s).group g = if s.store.standbyBank.present g then s.group g else offChannel (s.group g) := by
  rw [← exchangeBanks_activeBank s]
  exact group_clearAbsent (exchangeBanks s).sync g

theorem stormOf_laterCleared (s : State) (g : GroupId) :
    (laterCleared s).stormOf g =
      if s.store.standbyBank.present g then { s.stormOf g with count := min (s.stormOf g).count s.store.standbyBank.stormLimit }
      else StormRecord.atPowerOn := by
  rw [← exchangeBanks_activeBank s, laterCleared, stormOf_clearAbsent]
  rw [stormOf_sync, exchangeBanks_stormOf, ← exchangeBanks_activeBank s]
  rfl

theorem takeSwap_later_elsewhere {s : State} (h : s.mode.configured = true) (hm : s.mode.mode ≠ .drive) :
    takeSwap s = laterCleared s := by
  rw [takeSwap_later h, laterSwap_elsewhere (by exact hm), laterCleared]

theorem takeSwap_later_drive {s : State} (h : s.mode.configured = true) (hm : s.mode.mode = .drive) :
    takeSwap s = allGroups.foldl (changeForced s.activeBank) (laterCleared s) := by
  rw [takeSwap_later h, laterSwap_drive (by exact hm), laterCleared]

theorem groupFrame_takeSwap_later {s : State} (h : s.mode.configured = true) : GroupFrame (laterCleared s) (takeSwap s) := by
  by_cases hm : s.mode.mode = .drive
  · rw [takeSwap_later_drive h hm]
    exact groupFrame_changeAll (by rw [(laterCleared_fields s).1, hm])
  · rw [takeSwap_later_elsewhere h hm]
    exact .refl _

theorem stormOf_takeSwap_later {s : State} (h : s.mode.configured = true) (g : GroupId) :
    (takeSwap s).stormOf g = (laterCleared s).stormOf g := by
  rw [State.stormOf, (groupFrame_takeSwap_later h).storm]
  rfl

/-- A later swap in DRIVE, channel by channel (R36). -/
theorem group_takeSwap_later_drive {s : State} (h : s.mode.configured = true) (hm : s.mode.mode = .drive) (g : GroupId) :
    ((s.activeBank.groupRecord g).driveForced = (s.store.standbyBank.groupRecord g).driveForced →
      (takeSwap s).group g = (laterCleared s).group g) ∧
    ((s.activeBank.groupRecord g).driveForced = true → (s.store.standbyBank.groupRecord g).driveForced = false →
      (takeSwap s).group g =
        if ((laterCleared s).group g).state = .up ∧ ((laterCleared s).group g).timer = .stopped then
          { (laterCleared s).group g with timer := .linger (s.store.standbyBank.groupRecord g).tmin } else (laterCleared s).group g) ∧
    ((s.activeBank.groupRecord g).driveForced = false → (s.store.standbyBank.groupRecord g).driveForced = true →
      (takeSwap s).group g =
        forcedChannel (s.store.standbyBank.groupRecord g) (s.pg.getLsbD g) ((laterCleared s).group g)) := by
  obtain ⟨hmode, -, -, hpg, hbank⟩ := laterCleared_fields s
  obtain ⟨v, hv, hg, he⟩ := group_changeAll (old := s.activeBank) (u := laterCleared s) (by rw [hmode, hm]) g
  have hself := group_changeForced_self (old := s.activeBank) (g := g) hv.2
  rw [hv.1.activeBank, hbank, hv.1.keeps.pg, hpg, hg, ← he, ← takeSwap_later_drive h hm] at hself
  exact hself

theorem history_takeSwap_later_drive {s : State} (h : s.mode.configured = true) (hm : s.mode.mode = .drive) :
    (takeSwap s).history = s.history.pushAll
      ((allGroups.filter (fun g => !(s.activeBank.groupRecord g).driveForced && (s.store.standbyBank.groupRecord g).driveForced)).filterMap
        (fun g => forcedRecord (s.store.standbyBank.groupRecord g) (s.pg.getLsbD g) (s.group g) g (takeSwap s))) := by
  obtain ⟨hmode, -, hhistory, hpg, hbank⟩ := laterCleared_fields s
  have hf := groupFrame_takeSwap_later h
  have hrec : ∀ g, changeRecord s.activeBank (laterCleared s) g =
      if !(s.activeBank.groupRecord g).driveForced && (s.store.standbyBank.groupRecord g).driveForced then
        forcedRecord (s.store.standbyBank.groupRecord g) (s.pg.getLsbD g) (s.group g) g (takeSwap s) else none := by
    intro g
    rw [changeRecord, hbank, hpg]
    split
    · rename_i hc
      rw [Bool.and_eq_true] at hc
      rw [group_laterCleared, if_pos (present_of_driveForced hc.2), forcedRecord_congr hf.mode (by rw [hf.charge])]
    · rfl
  rw [List.filterMap_filter, ← List.filterMap_congr fun g (_ : g ∈ allGroups) => hrec g, ← hhistory,
    ← history_changeAll (by rw [hmode, hm]), ← takeSwap_later_drive h hm]

theorem takeSwap_first_drive {s : State} (h : s.mode.configured = false) (hl : s.lines.ign.level = true) :
    takeSwap s = driveEntry (firstSwapStart (exchangeBanks s)) := by
  rw [takeSwap_first h, firstSwap_eq, if_pos]
  rw [(firstSwapStart_fields (exchangeBanks s)).2.2.1]
  exact hl

theorem takeSwap_first_parked {s : State} (h : s.mode.configured = false) (hl : s.lines.ign.level = false) :
    takeSwap s = parkedEntry (firstSwapStart (exchangeBanks s)) := by
  rw [takeSwap_first h, firstSwap_eq, if_neg]
  rw [(firstSwapStart_fields (exchangeBanks s)).2.2.1, show (exchangeBanks s).lines.ign.level = false from hl]
  simp

theorem exec_swap {args : List Byte} {r s : State} (hs : s = r.requestArrives (0x12 :: args)) (hl : args.length ≤ 7)
    (ho : s.extendedOpen) (hi : s.agent.state = .idle) (hv : s.store.standby = .verified) :
    exec (.swap args) r = .next ((takeSwap (beginRequest s)).answered
      [0x12, 0, byteOf (modeCode (takeSwap (beginRequest s)).mode.mode), 0, 0, 0, 0, 0]) := by
  have hact : actSwap args (beginRequest s) =
      answerOk (takeSwap (beginRequest s)) [byteOf (modeCode (takeSwap (beginRequest s)).mode.mode)] := by
    rw [actSwap, if_neg (by exact not_not.mpr hi), if_neg (by exact not_not.mpr hv)]
  rw [exec, execSwap, List.take_of_length_le hl, ← hs, serveSwap,
    serve_passes s hl (Nat.succ_le_succ (Nat.zero_le _)) ((gateOpen_extended s).mpr ho) rfl, hact, respond_answered]
  rfl

/-- An absent group after a swap, whichever it is (R36, R99 step 1). -/
theorem takeSwap_absent {s : State} {g : GroupId} (hp : s.store.standbyBank.present g = false) :
    (takeSwap s).group g = offChannel (s.group g) ∧ (takeSwap s).stormOf g = { count := 0, window := none, quarantine := none } := by
  have hforced := driveForced_absent hp
  have hcleared : (laterCleared s).group g = offChannel (s.group g) := by
    rw [group_laterCleared, if_neg (by rw [hp]; simp)]
  have hstart : (firstSwapStart (exchangeBanks s)).group g = offChannel (s.group g) := by
    rw [group_firstSwapStart, exchangeBanks_activeBank, if_pos hp]
    rfl
  have hbank : (firstSwapStart (exchangeBanks s)).activeBank = s.store.standbyBank :=
    (firstSwapStart_fields _).2.2.2.2.trans (exchangeBanks_activeBank s)
  cases hc : s.mode.configured with
  | true =>
    refine ⟨?_, ?_⟩
    · by_cases hm : s.mode.mode = .drive
      · obtain ⟨hsame, hstarts, -⟩ := group_takeSwap_later_drive hc hm g
        cases ho : (s.activeBank.groupRecord g).driveForced with
        | false => rw [hsame (ho.trans hforced.symm), hcleared]
        | true =>
          rw [hstarts ho hforced, hcleared, if_neg]
          simp [offChannel]
      · rw [takeSwap_later_elsewhere hc hm, hcleared]
    · rw [stormOf_takeSwap_later hc, stormOf_laterCleared, if_neg (by rw [hp]; simp)]
      rfl
  | false =>
    cases hl : s.lines.ign.level with
    | true =>
      rw [takeSwap_first_drive hc hl, group_driveEntry, hbank, hforced, hstart, stormOf_driveEntry]
      exact ⟨enteringChannel_off _, rfl⟩
    | false =>
      rw [takeSwap_first_parked hc hl, group_parkedEntry, hbank, hstart, parkedChannel_off hforced, stormOf_parkedEntry,
        stormOf_firstSwapStart, exchangeBanks_activeBank, if_neg (by rw [hp]; simp)]
      exact ⟨rfl, rfl⟩

/-- What a first swap keeps of a channel, with the bank it brings (R99). -/
theorem group_firstSwapStart_exchanged (s : State) (g : GroupId) :
    (firstSwapStart (exchangeBanks s)).group g =
      if s.store.standbyBank.present g = false then offChannel (s.group g)
      else if s.mode.fb = true ∧ (s.group g).state = .up ∧ (s.group g).timer = .stopped then
        { s.group g with timer := .linger (s.store.standbyBank.groupRecord g).tmin }
      else s.group g := by
  rw [group_firstSwapStart, exchangeBanks_activeBank]
  rfl

/-- Settles O54: the swap in the state after the request is taken, later and first. -/
theorem swapTakesTheNewTable : Obligations.SwapTakesTheNewTable := by
  rintro args r s u n keep hs hu hl ho hi hv hn hkeep
  have hk := takeSwap_keeps u
  have hfields : u.mode = s.mode ∧ u.charge = s.charge ∧ u.history = s.history ∧ u.lines = s.lines ∧ u.store = s.store ∧ u.pg = s.pg := by
    rw [hu]
    exact ⟨rfl, rfl, rfl, rfl, rfl, rfl⟩
  obtain ⟨hmode, hcharge, hhistory, hlines, hstore, hpg⟩ := hfields
  have hgroup : ∀ g, u.group g = s.group g := fun g => by rw [hu]; rfl
  have hstorm : ∀ g, u.stormOf g = s.stormOf g := fun g => by rw [hu]; rfl
  have hactive : u.activeBank = s.activeBank := by rw [hu]; rfl
  have hnew : u.store.standbyBank = n := by rw [hstore, hn]
  have hexec := exec_swap hs hl ho hi hv
  rw [← hu] at hexec
  have hxcharge : (exchangeBanks u).charge =
      { s.charge with
        l1 := s.charge.pActive * n.q1 / 65536, l2 := s.charge.pActive * n.q2 / 65536, l3 := s.charge.pActive * n.q3 / 65536,
        level := if s.charge.loaded then
            levelOf s.charge.bRem (s.charge.pActive * n.q2 / 65536) (s.charge.pActive * n.q3 / 65536) else s.charge.level } := by
    rw [exchangeBanks_charge, hnew, hcharge]
  refine ⟨takeSwap u, hexec, ?_, ?_, by rw [hk.store]; rfl, by rw [hk.store, ← hstore]; rfl, by rw [hk.store, ← hstore]; rfl,
    hk.agent, by rw [hk.lines, ← hlines]; rfl, by rw [hk.pg, ← hpg]; rfl, portsFollow_takeSwap u, takeSwap_configured u,
    fun g hp => ?_, fun hc => ?_, fun hc hign => ?_, fun hc hign => ?_⟩
  · rw [← hnew]
    exact (congrArg RuleStore.active hk.store).trans (exchange_active u.store)
  · rw [← hactive]
    exact (congrArg RuleStore.standbyBank hk.store).trans (exchange_standbyBank u.store)
  · rw [← hgroup g]
    exact takeSwap_absent (by rw [hnew, hp])
  · rw [← hmode] at hc
    obtain ⟨-, kcharge, khistory, -, -⟩ := laterCleared_fields u
    refine ⟨(takeSwap_mode_of_configured hc).trans hmode, ?_, fun g hp => ?_, fun hm => ?_, fun hm => ⟨fun g hp => ?_, ?_⟩⟩
    · rw [(groupFrame_takeSwap_later hc).charge, kcharge, hxcharge]
    · rw [stormOf_takeSwap_later hc, stormOf_laterCleared, hnew, if_pos hp, hstorm]
    · rw [← hmode] at hm
      rw [takeSwap_later_elsewhere hc hm, khistory, hhistory]
      refine ⟨rfl, fun g hp => ?_⟩
      rw [group_laterCleared, hnew, if_pos hp, hgroup]
    · rw [← hmode] at hm
      have hself := group_takeSwap_later_drive hc hm g
      rwa [group_laterCleared, hnew, if_pos hp, hgroup, hactive, hpg] at hself
    · rw [← hmode] at hm
      have hrecords := history_takeSwap_later_drive hc hm
      simp only [hnew, hgroup, hactive, hpg, hhistory] at hrecords
      exact hrecords
  all_goals
    rw [← hmode] at hc
    rw [← hlines] at hign
    have hkept : (firstSwapStart (exchangeBanks u)).group = keep := by
      funext g
      rw [group_firstSwapStart_exchanged, hkeep, hnew, hgroup, hmode]
      rw [hmode] at hc
      simp only [hc, true_and]
    obtain ⟨kmode, kcharge, -, kpg, kbank⟩ := firstSwapStart_fields (exchangeBanks u)
    have hbank : (firstSwapStart (exchangeBanks u)).activeBank = n := kbank.trans ((exchangeBanks_activeBank u).trans hnew)
    have hhist : (firstSwapStart (exchangeBanks u)).history = s.history := (history_firstSwapStart _).trans hhistory
  · have hstartpg : (firstSwapStart (exchangeBanks u)).pg = s.pg := kpg.trans hpg
    refine ⟨?_, fun hm => ?_, fun g => ?_, fun g => ?_, ?_⟩
    · rw [takeSwap_mode_of_first hc, hign, hmode]
      rfl
    · have hnp : ¬(firstSwapStart (exchangeBanks u)).mode.mode = .parked := by
        rw [kmode]
        change ¬u.mode.mode = .parked
        rw [hmode, hm]
        simp
      rw [takeSwap_first_drive hc hign, charge_driveEntry, if_neg hnp, kcharge, hxcharge]
    · rw [takeSwap_first_drive hc hign, stormOf_driveEntry]
      rfl
    · rw [takeSwap_first_drive hc hign, group_driveEntry, hbank, hstartpg, hkept]
    · rw [takeSwap_first_drive hc hign, history_driveEntry, hhist, hbank, hstartpg, hkept]
  · rw [takeSwap_first_parked hc hign]
    refine ⟨?_, ?_, fun g => ?_, fun g => ?_, ?_⟩
    · rw [← takeSwap_first_parked hc hign, takeSwap_mode_of_first hc, hign, hmode, hnew]
      rfl
    · rw [parkedEntry_charge, hbank, parkAccount_eq]
    · rw [stormOf_parkedEntry]
      exact ⟨rfl, rfl⟩
    · rw [group_parkedEntry, hbank, hkept]
    · rw [history_parkedEntry, hhist, hbank, hkept]
      by_cases h0 : n.parkBudget = 0
      · rw [if_pos h0, if_pos h0]
      · rw [if_neg h0, if_neg h0]
        rfl

end Sys2Proof.Machine
end

section
/-! Power-on: every item's value, and the eight groups that FALLBACK-AWAKE takes up (R97, R100 to R102). -/

namespace Sys2Proof.Machine

/-! ### Groups taken up at power-on -/

/-- A channel that FALLBACK-AWAKE has taken from its power-on value to POWERING (R97). -/
def startedGroup : Group :=
  { state := .powering, timer := .powerGoodDelay 64, grantClass := some 0, watch := false, lastFault := none, faultGuard := 1 }

/-- The record of a group that FALLBACK-AWAKE takes up. -/
def startRecord (g : GroupId) : WakeRecord :=
  { outcome := .granted, group := g, mode := .unconfigured, cls := some 0, cause := .mode, source := none, rule := none,
    ident := none, faultCause := none, modeTime := 0, bRem := 0 }

/-- The part while FALLBACK-AWAKE takes up its groups: every item but groups and history has its power-on value, and no group is further
than POWERING. -/
structure Starting (pins : PowerOnPins) (s : State) : Prop where
  frame : s = { State.atPowerOn pins with groups := s.groups, history := s.history }
  group : ∀ g, s.group g = Group.atPowerOn ∨ s.group g = startedGroup

theorem starting_atPowerOn (pins : PowerOnPins) : Starting pins (State.atPowerOn pins) := ⟨rfl, fun g => .inl (group_atPowerOn pins g)⟩

section
variable {pins : PowerOnPins} {s : State}

theorem Starting.mode (h : Starting pins s) : s.mode = ModeController.atPowerOn pins := by
  rw [h.frame]
  rfl

theorem Starting.wakesPort (h : Starting pins s) (g : GroupId) : (s.group g).state.wakesPort = false := by
  rcases h.group g with hg | hg <;> rw [hg] <;> rfl

theorem Starting.awake (h : Starting pins s) (p : PortId) : s.awake p = false := by
  have hl : s.agent.linger = none := by
    rw [h.frame]
    rfl
  simp [State.awake, State.groupWakes, h.wakesPort, hl]

/-- While no group wakes a port, making changes known does nothing to ports at their power-on value. -/
theorem Starting.sync (h : Starting pins s) : s.sync = s := by
  have hport : ∀ p, s.port p = Port.atPowerOn := fun p => by
    rw [h.frame]
    exact port_atPowerOn pins p
  have hhold : s.hold = [] := by
    rw [h.frame]
    rfl
  have hheld : ∀ p, s.heldFor p = 0 := fun p => by
    rw [State.heldFor, hhold]
    rfl
  have hzero : countBy .holdDiscarded 0 Port.atPowerOn = Port.atPowerOn := by
    rw [countBy]
    rfl
  have hports : s.sync.ports = s.ports := by
    refine vector_ext_get fun p => ?_
    have hp := port_sync s p
    rw [h.awake, hport, hheld] at hp
    refine hp.trans ?_
    rw [show syncPort false Port.atPowerOn = Port.atPowerOn from rfl, hzero, ite_self, ← hport p]
    rfl
  have hsync : s.sync.hold = s.hold := by
    rw [hold_sync, hhold]
    rfl
  rw [sync_frame, hports, hsync]

theorem Starting.params (h : Starting pins s) (g : GroupId) : s.params g = builtInParams := by
  rw [State.params, h.mode]
  rfl

/-- Replacing one channel keeps the part in this stage. -/
theorem Starting.set (h : Starting pins s) (g : GroupId) (w : WakeHistory) :
    Starting pins { s.setGroup g startedGroup with history := w } := by
  refine ⟨?_, fun k => ?_⟩
  · rw [h.frame]
    rfl
  · by_cases hk : k = g
    · subst hk
      exact .inr (group_setGroup_self s k startedGroup)
    · rw [show ({ s.setGroup g startedGroup with history := w } : State).group k = s.group k from group_setGroup_ne s _ hk]
      exact h.group k

/-- One group under FALLBACK-AWAKE: from its power-on value it is taken up with a record, and otherwise nothing changes. -/
theorem Starting.takeWakeGroup (h : Starting pins s) (g : GroupId) :
    (s.group g = Group.atPowerOn → (takeWakeGroup modeRequest g s).1 =
      { s.setGroup g startedGroup with history := s.history.push (startRecord g) }) ∧
    (s.group g = startedGroup → (takeWakeGroup modeRequest g s).1 = s) := by
  have hp : (s.params g).present = true := by
    rw [h.params]
    rfl
  have hm : s.mode.mode ≠ .parked := by
    rw [h.mode]
    simp [ModeController.atPowerOn]
  refine ⟨fun hg => ?_, fun hg => ?_⟩
  · have hs : (s.group g).state = .off := by
      rw [hg]
      rfl
    have hpower : poweringState g 0 s = s.setGroup g startedGroup := by
      have hset : Starting pins (s.setGroup g startedGroup) := h.set g s.history
      rw [poweringState, h.params, hg]
      exact hset.sync
    have henter : enterPowering g 0 s = s.setGroup g startedGroup := by
      rw [enterPowering_eq, h.params, if_neg (by simp [builtInParams]), hpower]
    have hrec : RequestRecord .granted g modeRequest s = startRecord g := by
      rw [RequestRecord, h.frame]
      rfl
    rw [takeWakeGroup_mode_off hm hp hs, henter, hrec]
  · have hup : (s.group g).state = .powering ∨ (s.group g).state = .releasing := .inl (by rw [hg]; rfl)
    have hl : lowerClass (s.group g).grantClass modeRequest.cls = some 0 := lowerClass_zero _
    have hsame : ({ s.group g with grantClass := some 0 } : Group) = s.group g := by
      rw [hg]
      rfl
    rw [takeWakeGroup_of_onTheWayUp hp hup, hl, hsame, setGroup_group]

end

/-- While there is room, records pile up with the last one newest (R140). -/
theorem pushAll_room {h : WakeHistory} {l : List WakeRecord} (hl : h.records.length + l.length ≤ 32) :
    h.pushAll l = { h with records := l.reverse ++ h.records } := by
  induction l generalizing h with
  | nil => rfl
  | cons w l ih =>
    rw [List.length_cons] at hl
    have hpush : h.push w = { h with records := w :: h.records } := if_pos (show h.records.length < 32 by omega)
    have hrest := ih (h := h.push w) (by rw [hpush, List.length_cons]; omega)
    rw [WakeHistory.pushAll, List.foldl_cons]
    refine hrest.trans ?_
    rw [hpush, List.reverse_cons, List.append_assoc]
    rfl

/-- The record that FALLBACK-AWAKE writes for a group. -/
def startingRecord (s : State) (g : GroupId) : Option WakeRecord :=
  if s.group g = Group.atPowerOn then some (startRecord g) else none

theorem startedGroup_ne : startedGroup ≠ Group.atPowerOn := by decide

theorem starting_step {pins : PowerOnPins} (s : State) (g : GroupId) (h : Starting pins s) :
    Starting pins (takeWakeGroup modeRequest g s).1 := by
  obtain ⟨hoff, hon⟩ := h.takeWakeGroup g
  rcases h.group g with hg | hg
  · rw [hoff hg]
    exact h.set g _
  · rw [hon hg]
    exact h

theorem history_starting_step {pins : PowerOnPins} {s : State} (h : Starting pins s) (g : GroupId) :
    (takeWakeGroup modeRequest g s).1.history = s.history.pushAll (startingRecord s g).toList := by
  obtain ⟨hoff, hon⟩ := h.takeWakeGroup g
  rcases h.group g with hg | hg
  · rw [hoff hg, startingRecord, if_pos hg]
    rfl
  · rw [hon hg, startingRecord, if_neg (by rw [hg]; exact startedGroup_ne)]
    rfl

theorem startUp_awake {pins : PowerOnPins} (h : pins.fb = true) :
    startUp pins = allGroups.foldl (fun t g => (takeWakeGroup modeRequest g t).1) (State.atPowerOn pins) := by
  have hall : allGroups.filter (fun g : GroupId => modeRequest.set.getLsbD g.val) = allGroups := by decide
  rw [startUp, if_pos h, takeWake_state, hall]

/-- After power-on under FALLBACK-AWAKE (R97): every group is POWERING with its record, and no other item has changed. -/
theorem startUp_awake_fields {pins : PowerOnPins} (h : pins.fb = true) :
    Starting pins (startUp pins) ∧ (∀ g, (startUp pins).group g = startedGroup) ∧
    (startUp pins).history = { records := [7, 6, 5, 4, 3, 2, 1, 0].map startRecord, overwrites := 0 } := by
  have hne : ∀ (s : State) (g k : GroupId), k ≠ g → ((takeWakeGroup modeRequest g s).1).group k = s.group k :=
    fun s _ _ hk => group_takeWakeGroup_ne modeRequest s hk
  have hkeep : ∀ (l : List GroupId) (t : State), Starting pins t →
      Starting pins (l.foldl (fun t g => (takeWakeGroup modeRequest g t).1) t) := by
    intro l
    induction l with
    | nil => exact fun _ ht => ht
    | cons g l ih => exact fun t ht => ih _ (starting_step t g ht)
  rw [startUp_awake h]
  refine ⟨hkeep allGroups _ (starting_atPowerOn pins), fun g => ?_, ?_⟩
  · obtain ⟨u, hu, hg, he⟩ := group_foldl (f := fun t g => (takeWakeGroup modeRequest g t).1) (K := Starting pins) hne starting_step
      allGroups allGroups_nodup (State.atPowerOn pins) (starting_atPowerOn pins) g (mem_allGroups g)
    rw [he, (hu.takeWakeGroup g).1 (hg.trans (group_atPowerOn pins g))]
    exact group_setGroup_self u g startedGroup
  · rw [history_foldl (K := Starting pins) (wr := startingRecord) starting_step (fun s g hs => history_starting_step hs g)
      (fun s g k _ hk => by rw [startingRecord, startingRecord, hne s g k hk]) allGroups allGroups_nodup _ (starting_atPowerOn pins)]
    have hall : ∀ g, startingRecord (State.atPowerOn pins) g = some (startRecord g) := fun g => if_pos (group_atPowerOn pins g)
    have hpush := pushAll_room (h := (State.atPowerOn pins).history) (l := allGroups.map startRecord)
      (show 0 + 8 ≤ 32 by omega)
    rw [funext hall, List.filterMap_eq_map', hpush, ← List.map_reverse]
    rfl

/-- Settles O18: the power-on state, with the groups and records of FALLBACK-AWAKE. -/
theorem powerOnSetsEveryItem : Obligations.PowerOnSetsEveryItem := by
  intro pins s
  have hstart : Starting pins (startUp pins) := by
    cases hfb : pins.fb with
    | true => exact (startUp_awake_fields hfb).1
    | false =>
      rw [startUp, hfb]
      exact starting_atPowerOn pins
  have hport : ∀ p, (startUp pins).port p = Port.atPowerOn := fun p => by
    rw [hstart.frame]
    exact port_atPowerOn pins p
  have hlines : (startUp pins).lines = (State.atPowerOn pins).lines := by rw [hstart.frame]
  refine ⟨{ startUp pins with pending := s.pending }, rfl, rfl, ?_, ?_, fun p => ?_, ⟨?_, ?_, fun k => ?_⟩, ?_, ?_, ?_, ?_, fun g => ?_, ?_,
    fun hfb => ?_, fun hfb => ?_⟩
  · rw [hstart.frame]
    exact fun a => ⟨rfl, rfl⟩
  · rw [hstart.frame]
    exact ⟨rfl, rfl, rfl, rfl⟩
  · have hp : ({ startUp pins with pending := s.pending } : State).port p = Port.atPowerOn := hport p
    rw [hp]
    refine ⟨rfl, rfl, rfl, rfl, rfl, rfl, rfl, fun c => ?_⟩
    rw [State.counter, hp, counter_atPowerOn]
  · rw [hstart.frame]
    rfl
  · rw [hstart.frame]
    rfl
  · rw [hstart.frame]
    exact tabGroups_get _ k
  · rw [hstart.frame]
    rfl
  · rw [hstart.frame]
    rfl
  · rw [hstart.frame]
    rfl
  · rw [hstart.frame]
    rfl
  · rw [hstart.frame]
    exact tabGroups_get _ g
  · rw [hstart.frame]
    rfl
  · rw [startUp, hfb]
    exact ⟨fun g => group_atPowerOn pins g, rfl⟩
  · obtain ⟨-, hgroup, hhistory⟩ := startUp_awake_fields hfb
    dsimp only
    rw [hhistory]
    exact ⟨hgroup, rfl, rfl⟩

end Sys2Proof.Machine
end

section
/-! The bytes of a management request and the command that they spell (O17). -/

namespace Sys2Proof.Machine

/-- A byte with the value of a command code is that code. -/
theorem byte_eq_of_toNat {c : Byte} {n : Nat} (h : c.toNat = n) : c = BitVec.ofNat 8 n := by
  rw [← h, BitVec.ofNat_toNat, BitVec.setWidth_eq]

/-- The data bytes spell back the command that they name. -/
theorem requestBytes_decodeRequest : ∀ d : List Byte, requestBytes (decodeRequest d) = some d
  | [] => rfl
  | c :: args => by
    unfold decodeRequest
    dsimp only
    split
    case h_17 => rfl
    all_goals
      rw [byte_eq_of_toNat ‹c.toNat = _›]
      rfl

/-- At most eight data bytes name a command that the part can meet. -/
theorem wellFormed_decodeRequest : ∀ d : List Byte, d.length ≤ 8 → (decodeRequest d).wellFormed = true
  | [], _ => rfl
  | c :: args, hl => by
    have ha : args.length ≤ 7 := Nat.le_of_succ_le_succ hl
    cases hc : isCommandCode c with
    | false =>
      rw [Sys2Proof.Laws.decodeRequest_unknown c args hc]
      simp [Instr.wellFormed, namesNoCommand, hc, ha]
    | true =>
      unfold decodeRequest
      dsimp only
      split
      case h_17 h1 h2 h3 h4 h5 h6 h7 h8 h9 h10 h11 h12 h13 h14 h15 h16 =>
        simp only [imp_false] at h1 h2 h3 h4 h5 h6 h7 h8 h9 h10 h11 h12 h13 h14 h15 h16
        simp only [isCommandCode, Bool.or_eq_true, Bool.and_eq_true, decide_eq_true_eq] at hc
        omega
      all_goals exact decide_eq_true ha

/-- The data bytes of a well-formed command are at most eight. -/
theorem requestBytes_length {i : Instr} {d : List Byte} (hw : i.wellFormed = true) (hd : requestBytes i = some d) : d.length ≤ 8 := by
  cases i
  case unknownCommand data =>
    cases hd
    cases d with
    | nil => exact Nat.zero_le _
    | cons c rest =>
      simp only [Instr.wellFormed, namesNoCommand, Bool.and_eq_true, decide_eq_true_eq] at hw
      exact Nat.succ_le_succ hw.2
  case status | readBudget | readGroup | readHistory | readCounters | setPointer | readTable | abort | writeTable | verify | swap | lock
      | wake | clearFault | releaseQuarantine | clearHistory =>
    cases hd
    exact Nat.succ_le_succ (of_decide_eq_true hw)
  all_goals cases hd

open Sys2Proof.Laws in
/-- A well-formed command is the one that its request bytes name. -/
theorem decodeRequest_of_requestBytes {i : Instr} : RequestRoundTrip.Statement i := by
  cases i
  case unknownCommand => exact RequestRoundTrip.unknownCommand _
  all_goals
    intro _ d hd
    cases hd
  all_goals rfl

/-- Settles O17: each of the sixteen command codes names its own command, every other first byte an unknown one. -/
theorem requestBytesRoundTrip : Obligations.RequestBytesRoundTrip :=
  ⟨fun _ d hw hd => ⟨decodeRequest_of_requestBytes hw d hd, requestBytes_length hw hd⟩,
    fun d hl => ⟨requestBytes_decodeRequest d, wellFormed_decodeRequest d hl⟩⟩

end Sys2Proof.Machine
end

section
/-! Verification finds no fault exactly in the sound banks (R25, R29; O53). -/

namespace Sys2Proof.Machine

/-- What R29 asks of a SHORT or LONG entry: its window, its report and its wake set. -/
def SoundEntry (m : Memory) (e : RuleEntry) : Prop :=
  (e.long = true → e.window ≤ 6 ∧ e.minLen ≤ 8) ∧ (e.action = .report → e.long = true ∧ e.wake = 0) ∧
    ∀ g : GroupId, e.wake.getLsbD g = true → m.present g = true

/-- What R25 and R29 ask of a rule list from a position and rule index on: room for its rules, sound entries, and END inside the
bank. -/
def SoundList (m : Memory) (fuel pos index : Nat) : Prop :=
  index + (m.entriesFrom fuel pos index).length ≤ 200 ∧ (∀ x ∈ m.entriesFrom fuel pos index, SoundEntry m x.2) ∧
    pos + ((m.entriesFrom fuel pos index).map (fun x => x.2.bytes)).sum + 8 ≤ 2048 ∧
    m.entryAt (pos + ((m.entriesFrom fuel pos index).map (fun x => x.2.bytes)).sum) = .last

/-! ### Marks and records -/

/-- A check that names a fault where `P` holds passes exactly when `P` fails and what is checked after it passes. -/
theorem faultIf_eq_none {P : Prop} [Decidable P] {x : VerifyFault} {o : Option VerifyFault} :
    (if P then some x else o) = none ↔ ¬ P ∧ o = none := by
  by_cases h : P <;> simp [h]

theorem verifyMark_eq_none {m : Memory} : verifyMark m = none ↔ m.u16 0 = 0x5734 := by
  rw [verifyMark, ← ite_not, faultIf_eq_none, not_not, and_iff_left rfl]
  exact Iff.rfl

theorem verifyGroup_eq_none {m : Memory} {g : GroupId} :
    verifyGroup m g = none ↔ (m.present g = true → (m.read (32 + 12 * g.val + 1)).toNat ≤ 4) := by
  rw [verifyGroup, faultIf_eq_none, and_iff_left rfl, Bool.and_eq_true, decide_eq_true_eq, not_and, not_lt]
  exact Iff.rfl

theorem presentSet_getLsbD (m : Memory) (g : GroupId) : m.presentSet.getLsbD g = m.present g :=
  getLsbD_foldl_groups m.present g

/-- A wake set passes exactly when each group that it names is present. -/
theorem namesPresent_iff {m : Memory} {wake : GroupSet} :
    m.namesPresent wake = true ↔ ∀ g : GroupId, wake.getLsbD g = true → m.present g = true := by
  rw [Memory.namesPresent, beq_iff_eq]
  constructor
  · intro h g hw
    have hbit := congrArg (·.getLsbD g.val) h
    simp only [BitVec.getLsbD_and, BitVec.getLsbD_not, presentSet_getLsbD, hw] at hbit
    simpa using hbit
  · intro h
    apply BitVec.eq_of_getLsbD_eq
    intro i hi
    rw [BitVec.getLsbD_and, BitVec.getLsbD_not, presentSet_getLsbD m ⟨i, hi⟩]
    cases hw : wake.getLsbD i with
    | false => simp
    | true => simp [h ⟨i, hi⟩ hw]

theorem verifyLine_eq_none {m : Memory} {k : GpiId} :
    verifyLine m k = none ↔ ∀ g : GroupId, (m.lineRecord k).wake.getLsbD g = true → m.present g = true := by
  rw [verifyLine, ← ite_not, faultIf_eq_none, not_not, and_iff_left rfl, namesPresent_iff]

/-! ### The rule list -/

theorem verifyEntry_eq_none {m : Memory} {pos index : Nat} {e : RuleEntry} :
    verifyEntry m pos index e = none ↔ index ≠ 200 ∧ SoundEntry m e := by
  have hindex : ¬ index = Config.ruleMax ↔ index ≠ 200 := Iff.rfl
  have hwindow : ¬ (e.long && (decide (6 < e.window) || decide (8 < e.minLen))) = true ↔
      (e.long = true → e.window ≤ 6 ∧ e.minLen ≤ 8) := by
    rw [Bool.and_eq_true, Bool.or_eq_true, decide_eq_true_eq, decide_eq_true_eq, not_and, not_or, not_lt, not_lt]
  have hreport : ¬ (e.action == .report && (!e.long || e.wake != 0)) = true ↔
      (e.action = .report → e.long = true ∧ e.wake = 0) := by
    rw [Bool.and_eq_true, Bool.or_eq_true, beq_iff_eq, bne_iff_ne, Bool.not_eq_true', not_and, not_or, Bool.not_eq_false,
      not_not]
  have hwake : ¬ (!m.namesPresent e.wake) = true ↔ ∀ g : GroupId, e.wake.getLsbD g = true → m.present g = true := by
    rw [Bool.not_eq_true', Bool.not_eq_false, namesPresent_iff]
  rw [verifyEntry, faultIf_eq_none, faultIf_eq_none, faultIf_eq_none, faultIf_eq_none, hindex, hwindow, hreport, hwake,
    and_iff_left rfl, SoundEntry]

theorem eight_le_bytes (e : RuleEntry) : 8 ≤ e.bytes := by
  unfold RuleEntry.bytes
  split <;> decide

/-- One entry more at the front of a sound list. -/
theorem soundList_rule {m : Memory} {fuel pos index : Nat} {e : RuleEntry} (he : m.entryAt pos = .rule e) :
    SoundList m (fuel + 1) pos index ↔ SoundEntry m e ∧ SoundList m fuel (pos + e.bytes) (index + 1) := by
  have hcons : m.entriesFrom (fuel + 1) pos index = (index, e) :: m.entriesFrom fuel (pos + e.bytes) (index + 1) := by
    rw [Memory.entriesFrom, he]
  rw [SoundList, SoundList, hcons, List.length_cons, List.map_cons, List.sum_cons, List.forall_mem_cons, ← Nat.add_assoc pos,
    show index + ((m.entriesFrom fuel (pos + e.bytes) (index + 1)).length + 1) =
      index + 1 + (m.entriesFrom fuel (pos + e.bytes) (index + 1)).length from by omega]
  tauto

/-- With fuel for every entry up to the end of the bank, the list part of R29 finds no fault exactly in a sound list. -/
theorem verifyList_eq_none {m : Memory} {fuel : Nat} : ∀ {pos index : Nat}, index ≤ 200 → 2048 < pos + 8 * fuel →
    pos < 2048 → (verifyList m fuel pos index = none ↔ SoundList m fuel pos index) := by
  have hbank : Config.bankBytes = 2048 := rfl
  induction fuel with
  | zero =>
    intro pos index _ hfuel hpos
    omega
  | succ fuel ih =>
    intro pos index hindex hfuel hpos
    cases he : m.entryAt pos with
    | unknown => simp [verifyList, SoundList, Memory.entriesFrom, he]
    | last =>
      simp only [verifyList, he, faultIf_eq_none, and_true, SoundList, Memory.entriesFrom, List.length_nil, List.not_mem_nil,
        List.map_nil, List.sum_nil, Nat.add_zero]
      simp only [false_imp_iff, implies_true, true_and, hindex, hbank, not_lt]
    | rule e =>
      have hbytes := eight_le_bytes e
      rw [soundList_rule he]
      cases hv : verifyEntry m pos index e with
      | some x =>
        have hfault : ¬ verifyList m (fuel + 1) pos index = none := by
          simp only [verifyList, he, hv, faultIf_eq_none, reduceCtorEq, and_false, not_false_iff]
        refine iff_of_false hfault fun ⟨hs, hl⟩ => ?_
        have hi : index ≠ 200 := fun hi => by have := hl.1; omega
        rw [verifyEntry_eq_none.mpr ⟨hi, hs⟩] at hv
        cases hv
      | none =>
        obtain ⟨hi, hs⟩ := verifyEntry_eq_none.mp hv
        simp only [verifyList, he, hv, faultIf_eq_none, hbank, not_lt, not_le]
        by_cases hend : pos + e.bytes < 2048
        · rw [ih (by omega) (by omega) hend]
          exact ⟨fun h => ⟨hs, h.2.2⟩, fun h => ⟨by omega, hend, h.2⟩⟩
        · refine iff_of_false (fun h => hend h.2.1) fun ⟨_, hl⟩ => ?_
          have := hl.2.2.1
          omega

/-- Settles O53: each step of R29 finds no fault exactly when its part of the bank is sound. -/
theorem verificationPassesExactlySoundBanks : Obligations.VerificationPassesExactlySoundBanks := by
  intro m
  have hlist : verifyList m listFuel Config.ruleListStart 0 = none ↔ SoundList m listFuel 256 0 :=
    verifyList_eq_none (by decide) (by decide) (by decide)
  simp only [verifyBank, Option.or_eq_none_iff, List.findSome?_eq_none_iff, mem_allGroups, true_imp_iff, verifyMark_eq_none,
    verifyGroup_eq_none, verifyLine_eq_none, hlist, SoundList, SoundEntry, Nat.zero_add, exists_eq_left]

end Sys2Proof.Machine
end

section
/-! Management requests: what each row serves, and the checks before its action (R146 to R150; O55). -/

namespace Sys2Proof.Machine

/-! ### What each row serves -/

/-- A row serves the request frame of its code: minimum length, gating, argument ranges and action. -/
def Serves (i : Instr) (c : Byte) (args : List Byte) (n : Nat) (g : Gate) (ok : List Byte → Bool)
    (act : List Byte → State → Answer) : Prop :=
  args.length ≤ 7 → ∀ r : State, exec i r = .next (serve c n g ok act args (r.requestArrives (c :: args)))

theorem serves_status (a : List Byte) : Serves (.status a) 0x01 a 2 .normal (fun a => argAt a 0 ≤ 1) actStatus :=
  fun hl r => exec_request (0x01 :: a) r (Nat.succ_le_succ hl)

theorem serves_readBudget (a : List Byte) : Serves (.readBudget a) 0x02 a 2 .normal (fun a => argAt a 0 ≤ 4) actReadBudget :=
  fun hl r => exec_request (0x02 :: a) r (Nat.succ_le_succ hl)

theorem serves_readGroup (a : List Byte) : Serves (.readGroup a) 0x03 a 2 .normal (fun a => argAt a 0 ≤ 7) actReadGroup :=
  fun hl r => exec_request (0x03 :: a) r (Nat.succ_le_succ hl)

theorem serves_readHistory (a : List Byte) : Serves (.readHistory a) 0x04 a 3 .normal
    (fun a => decide (argAt a 0 ≤ 31) && decide (argAt a 1 ≤ 3)) actReadHistory :=
  fun hl r => exec_request (0x04 :: a) r (Nat.succ_le_succ hl)

theorem serves_readCounters (a : List Byte) : Serves (.readCounters a) 0x05 a 4 .normal
    (fun a => decide (argAt a 0 ≤ 4) && decide (argAt a 1 ≤ 5)) actReadCounters :=
  fun hl r => exec_request (0x05 :: a) r (Nat.succ_le_succ hl)

theorem serves_setPointer (a : List Byte) : Serves (.setPointer a) 0x06 a 4 .normal
    (fun a => decide (argAt a 0 ≤ 1) && decide (argAt a 1 ≤ 15) && decide (argAt a 2 ≤ 127)) actSetPointer :=
  fun hl r => exec_request (0x06 :: a) r (Nat.succ_le_succ hl)

theorem serves_readTable (a : List Byte) : Serves (.readTable a) 0x07 a 1 .normal anyRange actReadTable :=
  fun hl r => exec_request (0x07 :: a) r (Nat.succ_le_succ hl)

theorem serves_abort (a : List Byte) : Serves (.abort a) 0x08 a 1 .normal anyRange actAbort :=
  fun hl r => exec_request (0x08 :: a) r (Nat.succ_le_succ hl)

theorem serves_writeTable (a : List Byte) : Serves (.writeTable a) 0x10 a 2 .extended anyRange actWriteTable :=
  fun hl r => exec_request (0x10 :: a) r (Nat.succ_le_succ hl)

theorem serves_verify (a : List Byte) : Serves (.verify a) 0x11 a 1 .extended anyRange actVerify :=
  fun hl r => exec_request (0x11 :: a) r (Nat.succ_le_succ hl)

theorem serves_swap (a : List Byte) : Serves (.swap a) 0x12 a 1 .extended anyRange actSwap :=
  fun hl r => exec_request (0x12 :: a) r (Nat.succ_le_succ hl)

theorem serves_lock (a : List Byte) : Serves (.lock a) 0x13 a 3 .serviceOnly anyRange actLock :=
  fun hl r => exec_request (0x13 :: a) r (Nat.succ_le_succ hl)

theorem serves_wake (a : List Byte) : Serves (.wake a) 0x14 a 3 .extended (fun a => argAt a 1 ≤ 3) actWake :=
  fun hl r => exec_request (0x14 :: a) r (Nat.succ_le_succ hl)

theorem serves_clearFault (a : List Byte) : Serves (.clearFault a) 0x15 a 2 .extended anyRange actClearFault :=
  fun hl r => exec_request (0x15 :: a) r (Nat.succ_le_succ hl)

theorem serves_releaseQuarantine (a : List Byte) :
    Serves (.releaseQuarantine a) 0x16 a 2 .extended anyRange actReleaseQuarantine :=
  fun hl r => exec_request (0x16 :: a) r (Nat.succ_le_succ hl)

theorem serves_clearHistory (a : List Byte) : Serves (.clearHistory a) 0x17 a 1 .extended anyRange actClearHistory :=
  fun hl r => exec_request (0x17 :: a) r (Nat.succ_le_succ hl)

section
variable {i : Instr} {c : Byte} {args : List Byte} {n : Nat} {g : Gate} {ok : List Byte → Bool} {act : List Byte → State → Answer}
  {r s : State}

/-- A request that passes every check is answered with what its action answers (R147, R149). -/
theorem Serves.passes (h : Serves i c args n g ok act) (hl : args.length ≤ 7) (hs : s = r.requestArrives (c :: args))
    (hn : n ≤ args.length + 1) (hg : gateOpen s g = true) (hr : ok args = true) {t : State} {st : Status} {results : List Byte}
    (hact : act args (beginRequest s) = { state := t, status := st, results := results }) :
    exec i r = .next (t.answered ((c :: statusCode st :: (results ++ List.replicate 6 0)).take 8)) := by
  rw [h hl r, ← hs, serve_passes s hl hn hg hr, hact, respond_answered]

end

/-! ### The rows of Table 9-1 -/

/-- A gating passes where the row's flags say so (R150). -/
def GateReads (g : Gate) (extended svcOnly : Bool) : Prop :=
  ∀ s : State, gateOpen s g = true ↔ (extended = true → s.extendedOpen) ∧ (svcOnly = true → s.lines.svc.level = true)

theorem gateReads_normal : GateReads .normal false false := fun _ => by simp [gateOpen]

theorem gateReads_extended : GateReads .extended true false := fun s => by rw [gateOpen_extended]; simp

theorem gateReads_serviceOnly : GateReads .serviceOnly false true := fun s => by simp [gateOpen]

/-- Each row of Table 9-1 serves its request with the checks that it names. -/
theorem serves_requestRow {i : Instr} {row : RequestRow} (h : requestRow i = some row) :
    ∃ (g : Gate) (ok : List Byte → Bool) (act : List Byte → State → Answer), Serves i row.code row.args row.minLen g ok act ∧
      GateReads g row.extended row.svcOnly ∧ ok row.args = row.inRange := by
  cases i <;> cases h
  case status a => exact ⟨_, _, _, serves_status a, gateReads_normal, rfl⟩
  case readBudget a => exact ⟨_, _, _, serves_readBudget a, gateReads_normal, rfl⟩
  case readGroup a => exact ⟨_, _, _, serves_readGroup a, gateReads_normal, rfl⟩
  case readHistory a => exact ⟨_, _, _, serves_readHistory a, gateReads_normal, (Bool.decide_and ..).symm⟩
  case readCounters a => exact ⟨_, _, _, serves_readCounters a, gateReads_normal, (Bool.decide_and ..).symm⟩
  case setPointer a =>
    refine ⟨_, _, _, serves_setPointer a, gateReads_normal, ?_⟩
    rw [Bool.and_assoc, ← Bool.decide_and, ← Bool.decide_and]
    exact Bool.decide_congr Iff.rfl
  case readTable a => exact ⟨_, _, _, serves_readTable a, gateReads_normal, rfl⟩
  case abort a => exact ⟨_, _, _, serves_abort a, gateReads_normal, rfl⟩
  case writeTable a => exact ⟨_, _, _, serves_writeTable a, gateReads_extended, rfl⟩
  case verify a => exact ⟨_, _, _, serves_verify a, gateReads_extended, rfl⟩
  case swap a => exact ⟨_, _, _, serves_swap a, gateReads_extended, rfl⟩
  case lock a => exact ⟨_, _, _, serves_lock a, gateReads_serviceOnly, rfl⟩
  case wake a => exact ⟨_, _, _, serves_wake a, gateReads_extended, rfl⟩
  case clearFault a => exact ⟨_, _, _, serves_clearFault a, gateReads_extended, rfl⟩
  case releaseQuarantine a => exact ⟨_, _, _, serves_releaseQuarantine a, gateReads_extended, rfl⟩
  case clearHistory a => exact ⟨_, _, _, serves_clearHistory a, gateReads_extended, rfl⟩

/-! ### Taking a request -/

/-- What taking a request leaves does not depend on whether the request waited. -/
theorem takeRequest_request (d : List Byte) (s : State) (x : Option (List Byte)) :
    takeRequest d { s with agent := { s.agent with request := x } } = takeRequest d s := by
  have hbytes := requestBytes_decodeRequest d
  unfold takeRequest
  generalize decodeRequest d = i at hbytes ⊢
  cases i
  case unknownCommand data => cases data <;> rfl
  case status | readBudget | readGroup | readHistory | readCounters | setPointer | readTable | abort | writeTable | verify | swap | lock
      | wake | clearFault | releaseQuarantine | clearHistory => rfl
  all_goals cases hbytes

theorem port_beginRequest_active (s : State) : ((beginRequest s).port 0).state = .active :=
  (port_sync_state _ 0).mpr (by simp [State.awake])

theorem exec_unknownCommand {c : Byte} {rest : List Byte} {r s : State} (hc : isCommandCode c = false) (hl : rest.length ≤ 7)
    (hs : s = r.requestArrives (c :: rest)) :
    exec (.unknownCommand (c :: rest)) r = .next ((beginRequest s).answered [c, 7, 0, 0, 0, 0, 0, 0]) := by
  have hdecode := Sys2Proof.Laws.decodeRequest_unknown c rest hc
  have htake : takeRequest (c :: rest) s = serveUnknown (c :: rest) s := by
    unfold takeRequest
    rw [hdecode]
  rw [← hdecode, exec_request (c :: rest) r (Nat.succ_le_succ hl), ← hs, htake]
  rfl

/-- Settles O55: the rows of Table 9-1 serve their requests by the checks of R149 in their order. -/
theorem requestsAreTakenAndChecked : Obligations.RequestsAreTakenAndChecked := by
  refine ⟨fun d r => ⟨fun h => if_pos h, fun h => if_neg h⟩, ?_, fun s => ⟨rfl, beginRequest_frame s, port_beginRequest_active s⟩,
    fun _ => rfl, fun c rest r s => exec_unknownCommand, ?_⟩
  · intro i d r s hw hd hs
    have hlen := requestBytes_length hw hd
    have harrived := requestArrives_of_waiting (d := d) (s := { s with agent := { s.agent with request := some d } }) rfl
    rw [← decodeRequest_of_requestBytes hw d hd, exec_request d r hlen, exec_request d _ hlen, ← hs, harrived]
    exact congrArg Host.Outcome.next (takeRequest_request d s (some d)).symm
  · intro i row r s hrow hl hs
    obtain ⟨g, ok, act, hserves, hgate, hok⟩ := serves_requestRow hrow
    have hexec := hserves hl r
    rw [← hs] at hexec
    refine ⟨fun hshort => ?_, fun hn hclosed => ?_, fun hn hext hsvc hrange => ?_⟩
    · rw [hexec, serve_short s hl hshort]
    · have hg : gateOpen s g = false := Bool.eq_false_iff.mpr fun h => by
        obtain ⟨hext, hsvc⟩ := (hgate s).mp h
        rcases hclosed with ⟨he, ho⟩ | ⟨he, ho⟩
        · exact ho (hext he)
        · rw [hsvc he] at ho
          cases ho
      rw [hexec, serve_gated s hl hn hg]
    · rw [hexec, serve_range s hl hn ((hgate s).mpr ⟨hext, hsvc⟩) (hok.trans hrange)]

end Sys2Proof.Machine
end

section
/-! VERIFY, ABORT, SWAP and LOCK by agent state (O58), and the requests that move the table pointer (O57). -/

namespace Sys2Proof.Machine

/-! ### Two bytes as a word -/

theorem toNat_append_byte (a b : Byte) : (a ++ b).toNat = a.toNat * 256 + b.toNat := by
  rw [BitVec.toNat_append, ← Nat.shiftLeft_add_eq_or_of_lt b.isLt, Nat.shiftLeft_eq]

theorem ofNat_two_bytes (a b : Byte) : BitVec.ofNat 16 (a.toNat * 256 + b.toNat) = a ++ b := by
  apply BitVec.eq_of_toNat_eq
  rw [BitVec.toNat_ofNat, toNat_append_byte]
  omega

theorem byteOf_toNat (b : Byte) : byteOf b.toNat = b := by
  rw [byteOf, BitVec.ofNat_toNat, BitVec.setWidth_eq]

theorem toNat_byteOf {n : Nat} (h : n < 256) : (byteOf n).toNat = n := by
  rw [byteOf, BitVec.toNat_ofNat]
  omega

theorem bytes16_append (a b : Byte) : bytes16 (a ++ b).toNat = [a, b] := by
  have hhigh : byteOf ((a ++ b).toNat / 256) = a := by
    rw [toNat_append_byte, show (a.toNat * 256 + b.toNat) / 256 = a.toNat from by omega, byteOf_toNat]
  have hlow : byteOf (a ++ b).toNat = b := by
    apply BitVec.eq_of_toNat_eq
    rw [byteOf, BitVec.toNat_ofNat, toNat_append_byte]
    omega
  rw [bytes16, hhigh, hlow]

/-! ### The actions by agent state -/

theorem actVerify_busy {args : List Byte} {s : State} (h : s.agent.state ≠ .idle) : actVerify args s = refuse .busy s := if_pos h

theorem actVerify_idle {args : List Byte} {s : State} (h : s.agent.state = .idle) :
    actVerify args s = answerOk (startVerification s) [] := if_neg (not_not.mpr h)

theorem actAbort_idle {args : List Byte} {s : State} (h : s.agent.state = .idle) : actAbort args s = answerOk s [0] := by
  unfold actAbort
  rw [h]
  rfl

theorem actAbort_verifying {args : List Byte} {s : State} (h : s.agent.state = .verifying) :
    actAbort args s = answerOk (stopVerification s) [1] := by
  unfold actAbort
  rw [h]
  rfl

theorem actAbort_copying {args : List Byte} {s : State} (h : s.agent.state = .copying) :
    actAbort args s = { state := s, status := .busy, results := [2] } := by
  unfold actAbort
  rw [h]
  rfl

theorem actSwap_busy {args : List Byte} {s : State} (h : s.agent.state ≠ .idle) : actSwap args s = refuse .busy s := if_pos h

theorem actSwap_notVerified {args : List Byte} {s : State} (hi : s.agent.state = .idle) (hv : s.store.standby ≠ .verified) :
    actSwap args s = refuse .notVerified s := by
  rw [actSwap, if_neg (not_not.mpr hi), if_pos hv]

theorem actLock_eq (a b : Byte) (rest : List Byte) (s : State) :
    actLock (a :: b :: rest) s = answerOk { s with store := { s.store with lockPages := a ++ b } } [a, b] := by
  have hset : (BitVec.ofNat 16 (argAt (a :: b :: rest) 0 * 256 + argAt (a :: b :: rest) 1) : PageSet) = a ++ b := ofNat_two_bytes a b
  unfold actLock
  dsimp only
  rw [hset, bytes16_append]

/-- Settles O58: each action by the agent's state, as it is found when the request is taken. -/
theorem verifyAbortAndLock : Obligations.VerifyAbortAndLock := by
  intro args r s u hl
  have hn : 1 ≤ args.length + 1 := Nat.le_add_left 1 _
  refine ⟨fun hs hu ho => ⟨fun h => ?_, fun h => ?_⟩, fun hs hu => ⟨fun h => ?_, fun h => ?_, fun h => ?_⟩,
    fun hs hu ho => ⟨fun h => ?_, fun h hv => ?_⟩, fun a b rest ha hs hu hsvc => ?_⟩ <;> subst hu
  · exact (serves_verify args).passes hl hs hn ((gateOpen_extended s).mpr ho) rfl (actVerify_busy (s := beginRequest s) h)
  · exact (serves_verify args).passes hl hs hn ((gateOpen_extended s).mpr ho) rfl (actVerify_idle (s := beginRequest s) h)
  · exact (serves_abort args).passes hl hs hn rfl rfl (actAbort_idle (s := beginRequest s) h)
  · exact (serves_abort args).passes hl hs hn rfl rfl (actAbort_verifying (s := beginRequest s) h)
  · exact (serves_abort args).passes hl hs hn rfl rfl (actAbort_copying (s := beginRequest s) h)
  · exact (serves_swap args).passes hl hs hn ((gateOpen_extended s).mpr ho) rfl (actSwap_busy (s := beginRequest s) h)
  · exact (serves_swap args).passes hl hs hn ((gateOpen_extended s).mpr ho) rfl (actSwap_notVerified (s := beginRequest s) h hv)
  · subst ha
    exact (serves_lock _).passes hl hs (by simp) hsvc rfl (actLock_eq a b rest (beginRequest s))

/-! ### The bytes of a WRITE-TABLE -/

section
variable {lock : PageSet} {m : Memory} {p : TablePointer} {n : Nat} {b : Byte}

theorem writeByte_locked (h : lock.getLsbD p.page.val = true) : writeByte lock (m, p, n) b = (m, p.advance 1, n) := if_pos h

theorem writeByte_stored (h : lock.getLsbD p.page.val = false) :
    writeByte lock (m, p, n) b = (m.write p.offset b, p.advance 1, n + 1) := if_neg (by rw [h]; exact Bool.false_ne_true)

end

/-- The position `i` behind a pointer lies in a page that is not locked. -/
def Storable (lock : PageSet) (p : TablePointer) (i : Nat) : Prop := lock.getLsbD (p.advance i).page.val = false

theorem storable_succ {lock : PageSet} {p : TablePointer} {i : Nat} : Storable lock (p.advance 1) i ↔ Storable lock p (i + 1) := by
  rw [Storable, Storable, pointer_advance_add, Nat.add_comm 1]

/-- A position behind the pointer, less than a whole bank away, is another one. -/
theorem offset_advance_ne {p : TablePointer} {i : Nat} (h0 : 0 < i) (hi : i < 2048) : (p.advance i).offset ≠ p.offset := by
  have hp := pointer_offset_lt p
  simp only [Config.bankBytes] at hp
  rw [(pointer_advance p i).2]
  omega

theorem writeBytes_pointer {lock : PageSet} (data : List Byte) : ∀ (m : Memory) (p : TablePointer) (n : Nat),
    (data.foldl (writeByte lock) (m, p, n)).2.1 = p.advance data.length := by
  induction data with
  | nil => exact fun m p n => (pointer_advance_zero p).symm
  | cons b rest ih =>
    intro m p n
    have hadd : (p.advance 1).advance rest.length = p.advance (b :: rest).length := by
      rw [pointer_advance_add, List.length_cons, Nat.add_comm 1]
    rw [List.foldl_cons]
    cases h : lock.getLsbD p.page.val with
    | true => rw [writeByte_locked h, ih, hadd]
    | false => rw [writeByte_stored h, ih, hadd]

/-- The number of the first positions behind a pointer that are not locked. -/
def storableCount (lock : PageSet) (p : TablePointer) (k : Nat) : Nat :=
  ((List.range k).filter (fun i => !lock.getLsbD (p.advance i).page.val)).length

theorem storableCount_succ (lock : PageSet) (p : TablePointer) (k : Nat) :
    storableCount lock p (k + 1) = (!lock.getLsbD p.page.val).toNat + storableCount lock (p.advance 1) k := by
  have hshift : ∀ i, (p.advance 1).advance i = p.advance (i + 1) := fun i => by rw [pointer_advance_add, Nat.add_comm 1]
  simp only [storableCount, List.range_succ_eq_map, List.filter_cons, pointer_advance_zero, List.filter_map, hshift, Function.comp_def]
  cases lock.getLsbD p.page.val <;> simp [Nat.add_comm]

theorem writeBytes_stored {lock : PageSet} (data : List Byte) : ∀ (m : Memory) (p : TablePointer) (n : Nat),
    (data.foldl (writeByte lock) (m, p, n)).2.2 = n + storableCount lock p data.length := by
  induction data with
  | nil => exact fun m p n => rfl
  | cons b rest ih =>
    intro m p n
    rw [List.foldl_cons, List.length_cons, storableCount_succ]
    cases h : lock.getLsbD p.page.val with
    | true => rw [writeByte_locked h, ih, Bool.not_true, Bool.toNat_false, Nat.zero_add]
    | false => rw [writeByte_stored h, ih, Bool.not_false, Bool.toNat_true, Nat.add_assoc]

/-- A WRITE-TABLE leaves every byte that none of its stored positions names. -/
theorem writeBytes_untouched {lock : PageSet} {x : Nat} (data : List Byte) : ∀ (m : Memory) (p : TablePointer) (n : Nat), m.wf = true →
    (∀ i < data.length, Storable lock p i → (p.advance i).offset ≠ x) →
    (data.foldl (writeByte lock) (m, p, n)).1.read x = m.read x := by
  induction data with
  | nil => exact fun m p n _ _ => rfl
  | cons b rest ih =>
    intro m p n hm h
    have hrest : ∀ i < rest.length, Storable lock (p.advance 1) i → ((p.advance 1).advance i).offset ≠ x := fun i hi hstore => by
      rw [pointer_advance_add, Nat.add_comm 1]
      exact h (i + 1) (Nat.succ_lt_succ hi) (storable_succ.mp hstore)
    rw [List.foldl_cons]
    cases hlock : lock.getLsbD p.page.val with
    | true => rw [writeByte_locked hlock, ih m _ n hm hrest]
    | false =>
      have hhere := h 0 (Nat.zero_lt_succ _) (by rw [Storable, pointer_advance_zero]; exact hlock)
      rw [pointer_advance_zero] at hhere
      rw [writeByte_stored hlock, ih _ _ _ (wf_write hm (pointer_offset_lt p)) hrest, read_write hm, if_neg (Ne.symm hhere)]

/-- A WRITE-TABLE of no more bytes than the bank holds stores each byte at its position. -/
theorem writeBytes_read {lock : PageSet} {v : Byte} (data : List Byte) : ∀ (m : Memory) (p : TablePointer) (n i : Nat), m.wf = true →
    data.length ≤ 2048 → data[i]? = some v → Storable lock p i →
    (data.foldl (writeByte lock) (m, p, n)).1.read (p.advance i).offset = v := by
  induction data with
  | nil => exact fun m p n i _ _ h => by cases h
  | cons b rest ih =>
    intro m p n i hm hlen hi hstore
    rw [List.length_cons] at hlen
    rw [List.foldl_cons]
    cases i with
    | zero =>
      cases hi
      rw [Storable, pointer_advance_zero] at hstore
      rw [pointer_advance_zero, writeByte_stored hstore,
        writeBytes_untouched rest _ _ _ (wf_write hm (pointer_offset_lt p)) fun i hi _ => by
          rw [pointer_advance_add]
          exact offset_advance_ne (by omega) (by omega),
        read_write hm, if_pos rfl]
    | succ i =>
      have hshift : p.advance (i + 1) = (p.advance 1).advance i := by rw [pointer_advance_add, Nat.add_comm 1]
      have hrest := storable_succ.mpr hstore
      rw [hshift]
      cases hlock : lock.getLsbD p.page.val with
      | true => rw [writeByte_locked hlock]; exact ih m _ n i hm (by omega) hi hrest
      | false => rw [writeByte_stored hlock]; exact ih _ _ _ i (wf_write hm (pointer_offset_lt p)) (by omega) hi hrest

/-! ### The pointer requests -/

theorem actSetPointer_eq (p : TablePointer) (rest : List Byte) (s : State) :
    actSetPointer (byteOf (roleCode p.role) :: byteOf p.page.val :: byteOf p.column.val :: rest) s =
      answerOk { s with agent := { s.agent with pointer := p, latch := none } } (pointerBytes p) := by
  obtain ⟨role, page, column⟩ := p
  have hrole : (roleOf (byteOf (roleCode role)).toNat).getD .active = role := by cases role <;> rfl
  have hpage : Fin.ofNat 16 (byteOf page.val).toNat = page := by
    rw [toNat_byteOf (by omega)]
    exact Fin.ofNat_val_eq_self page
  have hcolumn : Fin.ofNat 128 (byteOf column.val).toNat = column := by
    rw [toNat_byteOf (by omega)]
    exact Fin.ofNat_val_eq_self column
  have hpointer : TablePointer.mk ((roleOf (byteOf (roleCode role)).toNat).getD .active) (Fin.ofNat 16 (byteOf page.val).toNat)
      (Fin.ofNat 128 (byteOf column.val).toNat) = TablePointer.mk role page column := by
    rw [hrole, hpage, hcolumn]
  exact congrArg (fun q => answerOk { s with agent := { s.agent with pointer := q, latch := none } } (pointerBytes q)) hpointer

theorem exec_setPointer {p : TablePointer} {rest : List Byte} {r s : State} (hl : rest.length ≤ 4)
    (hs : s = r.requestArrives (0x06 :: byteOf (roleCode p.role) :: byteOf p.page.val :: byteOf p.column.val :: rest)) :
    exec (.setPointer (byteOf (roleCode p.role) :: byteOf p.page.val :: byteOf p.column.val :: rest)) r =
      .next (State.answered { beginRequest s with agent := { (beginRequest s).agent with pointer := p, latch := none } }
        [0x06, 0, byteOf (roleCode p.role), byteOf p.page.val, byteOf p.column.val, 0, 0, 0]) := by
  have hrange : (decide ((byteOf (roleCode p.role)).toNat ≤ 1) && decide ((byteOf p.page.val).toNat ≤ 15) &&
      decide ((byteOf p.column.val).toNat ≤ 127)) = true := by
    have hrole : roleCode p.role ≤ 1 := by cases p.role <;> decide
    rw [toNat_byteOf (by omega), toNat_byteOf (by omega), toNat_byteOf (by omega)]
    simp only [Bool.and_eq_true, decide_eq_true_eq]
    omega
  exact (serves_setPointer (_ :: _ :: _ :: rest)).passes (Nat.add_le_add_right hl 3) hs (by simp) rfl hrange (actSetPointer_eq p rest (beginRequest s))

theorem fetchSix_get (m : Memory) (p : TablePointer) (i : Fin 6) : (fetchSix m p).get i = m.read ((p.offset + i.val) % 2048) := by
  rw [← (pointer_advance p i.val).2]
  fin_cases i <;> rfl

section
variable {args : List Byte} {s : State}

theorem actReadTable_unfilled (h : s.agent.latch = none) : actReadTable args s =
    { state := { s with agent := { s.agent with latch := some (fetchSix (s.store.bankOf s.agent.pointer.role) s.agent.pointer),
                                                pointer := s.agent.pointer.advance 6 } },
      status := .noData, results := [] } := by
  unfold actReadTable
  dsimp only
  rw [h]

theorem actReadTable_filled {old : Vector Byte 6} (h : s.agent.latch = some old) : actReadTable args s =
    answerOk { s with agent := { s.agent with latch := some (fetchSix (s.store.bankOf s.agent.pointer.role) s.agent.pointer),
                                              pointer := s.agent.pointer.advance 6 } } old.toList := by
  unfold actReadTable
  dsimp only
  rw [h]

theorem actWriteTable_busy (h : s.agent.state ≠ .idle) : actWriteTable args s = refuse .busy s := if_pos h

theorem actWriteTable_bank (h : s.agent.state = .idle) (hr : s.agent.pointer.role = .active) :
    actWriteTable args s = refuse .bank s := by
  rw [actWriteTable, if_neg (not_not.mpr h), if_pos hr]

/-- The store after a WRITE-TABLE left the standby bank and the number of bytes stored (R32, R155). -/
def writtenStore (r : RuleStore) (m : Memory) (n : Nat) : RuleStore :=
  if n = 0 then r.setStandbyBank m else { r.setStandbyBank m with standby := .dirty }

theorem writtenStore_fields (r : RuleStore) (m : Memory) (n : Nat) :
    (writtenStore r m n).active = r.active ∧ (writtenStore r m n).verifyFault = r.verifyFault ∧
    (writtenStore r m n).lockPages = r.lockPages ∧ (writtenStore r m n).standby = (if n = 0 then r.standby else .dirty) ∧
    (writtenStore r m n).standbyBank = m := by
  obtain ⟨hlock, hfault, hstandby, -⟩ := setStandbyBank_rest r m
  unfold writtenStore
  by_cases hn : n = 0
  · rw [if_pos hn, if_pos hn]
    exact ⟨setStandbyBank_active r m, hfault, hlock, hstandby, setStandbyBank_standbyBank r m⟩
  · rw [if_neg hn, if_neg hn]
    exact ⟨setStandbyBank_active r m, hfault, hlock, rfl, setStandbyBank_standbyBank r m⟩

theorem actWriteTable_accepted (h : s.agent.state = .idle) (hr : s.agent.pointer.role = .standby) :
    actWriteTable args s = answerOk
      { s with store := writtenStore s.store (writeBytes s.store.lockPages s.store.standbyBank s.agent.pointer args).1
                          (writeBytes s.store.lockPages s.store.standbyBank s.agent.pointer args).2.2,
               agent := { s.agent with pointer := s.agent.pointer.advance args.length, latch := none } }
      [byteOf (writeBytes s.store.lockPages s.store.standbyBank s.agent.pointer args).2.2, 1,
        byteOf (s.agent.pointer.advance args.length).page.val, byteOf (s.agent.pointer.advance args.length).column.val] := by
  have hpointer : (writeBytes s.store.lockPages s.store.standbyBank s.agent.pointer args).2.1 = s.agent.pointer.advance args.length :=
    writeBytes_pointer args _ _ _
  have hrole : (s.agent.pointer.advance args.length).role = .standby := hr
  rw [actWriteTable, if_neg (not_not.mpr h), if_neg (by rw [hr]; decide)]
  dsimp only
  rw [hpointer, pointerBytes, hrole]
  rfl

end

/-- Settles O57: the pointer by its offset, and a WRITE-TABLE by induction on its bytes, each stored behind the ones before it. -/
theorem tableRequestsMoveThePointer : Obligations.TableRequestsMoveThePointer := by
  refine ⟨pointer_advance, fun p rest r s u hl hs hu => ?_, fun args r s u v hl hs hu => ?_,
    fun args r s u h1 hl ho hwf hs hu => ⟨fun h => ?_, fun h hr => ?_, fun h hr => ?_⟩⟩ <;> subst hu
  · exact exec_setPointer hl hs
  · refine ⟨fetchSix (s.store.bankOf s.agent.pointer.role) s.agent.pointer, fetchSix_get _ _, fun hv => ?_⟩
    subst hv
    refine ⟨fun h => ?_, fun old h => ?_⟩
    · exact (serves_readTable args).passes hl hs (Nat.le_add_left 1 _) rfl rfl (actReadTable_unfilled (s := beginRequest s) h)
    · have hbytes : ((0x07 :: statusCode .ok :: (old.toList ++ List.replicate 6 0)).take 8 : List Byte) = [0x07, 0] ++ old.toList :=
        List.take_left' (l₁ := [0x07, 0] ++ old.toList) (by simp)
      rw [← hbytes]
      exact (serves_readTable args).passes hl hs (Nat.le_add_left 1 _) rfl rfl (actReadTable_filled (s := beginRequest s) h)
  · exact (serves_writeTable args).passes hl hs (Nat.succ_le_succ h1) ((gateOpen_extended s).mpr ho) rfl
      (actWriteTable_busy (s := beginRequest s) h)
  · exact (serves_writeTable args).passes hl hs (Nat.succ_le_succ h1) ((gateOpen_extended s).mpr ho) rfl
      (actWriteTable_bank (s := beginRequest s) h hr)
  · have hexec := (serves_writeTable args).passes hl hs (Nat.succ_le_succ h1) ((gateOpen_extended s).mpr ho) rfl
      (actWriteTable_accepted (s := beginRequest s) h hr)
    have hstored : (writeBytes s.store.lockPages s.store.standbyBank s.agent.pointer args).2.2 =
        storableCount s.store.lockPages s.agent.pointer args.length :=
      (writeBytes_stored args _ _ _).trans (Nat.zero_add _)
    obtain ⟨hactive, hfault, hlock, hstandby, hbank⟩ := writtenStore_fields s.store
      (writeBytes s.store.lockPages s.store.standbyBank s.agent.pointer args).1
      (writeBytes s.store.lockPages s.store.standbyBank s.agent.pointer args).2.2
    refine ⟨_, _, hexec, rfl, hactive, hfault, hlock, hstored, hstandby, fun i b hi hfree => ?_, fun x hx => ?_⟩
    · exact (congrArg (fun m : Memory => m.read (s.agent.pointer.advance i).offset) hbank).trans
        (writeBytes_read args _ _ _ i hwf (by omega) hi hfree)
    · exact (congrArg (fun m : Memory => m.read x) hbank).trans (writeBytes_untouched args _ _ _ hwf hx)

end Sys2Proof.Machine
end

section
/-! The requests that read the part's state (R159 to R162; O56). -/

namespace Sys2Proof.Machine

section
variable {r s : State} {a : Byte} {rest : List Byte}

/-! ### STATUS and READ-BUDGET -/

theorem statusPart0_passed (h : s.store.verifyFault = none) :
    statusPart0 s = [byteOf (modeCode s.mode.mode * 64 + agentCode s.agent.state * 16 + standbyCode s.store.standby * 4
      + levelCode s.levelRead), byteOf 0, byteOf (0 / 256), byteOf 0] := by
  rw [statusPart0, h]
  rfl

theorem statusPart0_faulty {x : VerifyFault} (h : s.store.verifyFault = some x) :
    statusPart0 s = [byteOf (modeCode s.mode.mode * 64 + agentCode s.agent.state * 16 + standbyCode s.store.standby * 4
      + levelCode s.levelRead), byteOf (verifyKindCode x.kind), byteOf (x.offset / 256), byteOf x.offset] := by
  rw [statusPart0, h]
  rfl

theorem heldBytes_empty (h : s.hold = []) : byteOf s.hold.length :: oldestHeld s = [byteOf 0, 0xFF, 0xFF] := by
  rw [oldestHeld, h]
  rfl

theorem heldBytes_unruled {e : HoldEntry} {l : List HoldEntry} (h : s.hold = e :: l) (hr : e.rule = none) :
    byteOf s.hold.length :: oldestHeld s = [byteOf (e :: l).length, byteOf e.dest.val, 0xFF] := by
  rw [oldestHeld, h, List.head?_cons, Option.bind_some, hr]
  rfl

theorem heldBytes_ruled {e : HoldEntry} {l : List HoldEntry} {i : Nat} (h : s.hold = e :: l) (hr : e.rule = some i) :
    byteOf s.hold.length :: oldestHeld s = [byteOf (e :: l).length, byteOf e.dest.val, byteOf i] := by
  rw [oldestHeld, h, List.head?_cons, Option.bind_some, hr]
  rfl

theorem statusPart1_held {x : List Byte} (h : byteOf s.hold.length :: oldestHeld s = x) :
    statusPart1 s = [byteOf (s.store.lockPages.toNat / 256), byteOf s.store.lockPages.toNat,
      byteOf (s.mode.ma1.toNat * 16 + s.mode.ma0.toNat * 8 + s.mode.fb.toNat * 4 + s.lines.ign.level.toNat * 2
        + s.lines.svc.level.toNat)] ++ x := by
  rw [statusPart1, ← h]
  rfl

theorem exec_status (hl : rest.length ≤ 6) (ha : a.toNat ≤ 1) (hs : s = r.requestArrives (0x01 :: a :: rest))
    {results : List Byte} (hact : actStatus (a :: rest) (beginRequest s) = answerOk (beginRequest s) results) :
    exec (.status (a :: rest)) r = .next ((beginRequest s).answered ((0x01 :: 0 :: (results ++ List.replicate 6 0)).take 8)) :=
  (serves_status (a :: rest)).passes (Nat.succ_le_succ hl) hs (by simp) rfl (decide_eq_true ha) hact

theorem exec_readBudget (hl : rest.length ≤ 6) (ha : a.toNat ≤ 4) (hs : s = r.requestArrives (0x02 :: a :: rest))
    {results : List Byte} (hact : actReadBudget (a :: rest) (beginRequest s) = answerOk (beginRequest s) results) :
    exec (.readBudget (a :: rest)) r = .next ((beginRequest s).answered ((0x02 :: 0 :: (results ++ List.replicate 6 0)).take 8)) :=
  (serves_readBudget (a :: rest)).passes (Nat.succ_le_succ hl) hs (by simp) rfl (decide_eq_true ha) hact

/-! ### READ-GROUP -/

theorem exec_readGroup {g : GroupId} (hl : rest.length ≤ 6) (ha : a = byteOf g.val) (hs : s = r.requestArrives (0x03 :: a :: rest)) :
    exec (.readGroup (a :: rest)) r = .next ((beginRequest s).answered
      ([0x03, 0, byteOf (groupStateCode (s.group g).state), byteOf (((s.group g).lastFault.map faultCode).getD 0),
        optByte ((s.group g).grantClass.map (fun c => c.val)), byteOf (s.stormOf g).count] ++ bytes16 (lingerValue (s.group g)))) := by
  have hval : a.toNat = g.val := by rw [ha, toNat_byteOf (by omega)]
  have hgroup : (Fin.ofNat 8 (argAt (a :: rest) 0) : GroupId) = g := by
    rw [show argAt (a :: rest) 0 = g.val from hval]
    exact Fin.ofNat_val_eq_self g
  have hact : actReadGroup (a :: rest) (beginRequest s) = answerOk (beginRequest s)
      ([byteOf (groupStateCode (s.group g).state), byteOf (((s.group g).lastFault.map faultCode).getD 0),
        optByte ((s.group g).grantClass.map (fun c => c.val)), byteOf (s.stormOf g).count] ++ bytes16 (lingerValue (s.group g))) := by
    unfold actReadGroup
    rw [hgroup]
    rfl
  exact (serves_readGroup (a :: rest)).passes (Nat.succ_le_succ hl) hs (by simp) rfl
    (decide_eq_true (by rw [show argAt (a :: rest) 0 = g.val from hval]; omega)) hact

/-- The answer of READ-GROUP by its three fields that may be absent. -/
theorem readGroup_bytes_congr {x f f' c c' n : Byte} {l l' : Nat} (hf : f = f') (hc : c = c') (hl : l = l') :
    [0x03, 0, x, f, c, n] ++ bytes16 l = [0x03, 0, x, f', c', n] ++ bytes16 l' := by rw [hf, hc, hl]

/-! ### READ-HISTORY -/

theorem exec_readHistory {b : Byte} {more : List Byte} {t : State} {st : Status} {results : List Byte}
    (hl : (b :: more).length ≤ 6) (ha : a.toNat ≤ 31) (hb : b.toNat ≤ 3) (hs : s = r.requestArrives (0x04 :: a :: b :: more))
    (hact : actReadHistory (a :: b :: more) (beginRequest s) = { state := t, status := st, results := results }) :
    exec (.readHistory (a :: b :: more)) r =
      .next (t.answered ((0x04 :: statusCode st :: (results ++ List.replicate 6 0)).take 8)) :=
  (serves_readHistory (a :: b :: more)).passes (Nat.succ_le_succ hl) hs (by simp) rfl
    (Bool.and_eq_true_iff.mpr ⟨decide_eq_true ha, decide_eq_true hb⟩) hact

theorem actReadHistory_of_record {b : Byte} {more : List Byte} {w : WakeRecord} (h : s.history.records[a.toNat]? = some w) :
    actReadHistory (a :: b :: more) s = answerOk s (recordPart s.history w b.toNat) := by
  have h' : s.history.records[argAt (a :: b :: more) 0]? = some w := h
  unfold actReadHistory
  rw [h']
  rfl

/-- A standard identifier in the record's identifier field (11.1). -/
theorem identBytes_std (i : BitVec 11) : identBytes (.std i) = bytes32 i.toNat := by
  have h : (identBits (.std i)).toNat = i.toNat := by
    rw [identBits, BitVec.toNat_setWidth]
    omega
  rw [identBytes, h, identIsExt, if_neg Bool.false_ne_true, Nat.zero_add]

theorem recordPart_one_std {w : WakeRecord} {i : BitVec 11} (h : WakeHistory) (hi : w.ident = some (.std i)) :
    recordPart h w 1 = [optByte w.rule, optByte (w.faultCause.map faultCode)] ++ bytes32 i.toNat := by
  simp only [recordPart, hi, identBytes_std]

/-! ### READ-COUNTERS -/

/-- A pair of counters by its number: what is read of it, and what clearing it does (R18, R161). -/
def IsPair (n : Nat) (first : Counter) (second : Option Counter) : Prop :=
  ∀ x : Port, counterPair x n = (portCounter x first, second.elim 0 (portCounter x)) ∧
    clearPair n x = second.elim (clearCounter first x) (fun c => clearCounter c (clearCounter first x))

theorem isPair_of_byte {b : Byte} {first : Counter} {second : Option Counter}
    (h : (b = 0 ∧ first = .rxOk ∧ second = some .rxErr) ∨ (b = 1 ∧ first = .rxRemote ∧ second = some .rxBlocked) ∨
      (b = 2 ∧ first = .txOk ∧ second = some .txUndelivered) ∨ (b = 3 ∧ first = .dropQfull ∧ second = some .dropAsleep) ∨
      (b = 4 ∧ first = .holdOverflow ∧ second = some .holdExpired) ∨ (b = 5 ∧ first = .holdDiscarded ∧ second = none)) :
    b.toNat ≤ 5 ∧ IsPair b.toNat first second := by
  rcases h with ⟨rfl, rfl, rfl⟩ | ⟨rfl, rfl, rfl⟩ | ⟨rfl, rfl, rfl⟩ | ⟨rfl, rfl, rfl⟩ | ⟨rfl, rfl, rfl⟩ | ⟨rfl, rfl, rfl⟩ <;>
    exact ⟨by decide, fun _ => ⟨rfl, rfl⟩⟩

theorem portCounter_clearPair {n : Nat} {first : Counter} {second : Option Counter} (h : IsPair n first second) (x : Port)
    (c : Counter) : portCounter (clearPair n x) c = if c = first ∨ second = some c then 0 else portCounter x c := by
  rw [(h x).2]
  cases second with
  | none => simp [portCounter_clearCounter]
  | some d =>
    simp only [Option.elim_some, portCounter_clearCounter, Option.some_inj, eq_comm (a := d)]
    by_cases hd : c = d <;> by_cases hf : c = first <;> simp [hd, hf]

theorem clearPair_frame {n : Nat} {first : Counter} {second : Option Counter} (h : IsPair n first second) (x : Port) :
    clearPair n x = { x with counters := (clearPair n x).counters } := by
  rw [(h x).2]
  cases second <;> rfl

/-- What READ-COUNTERS leaves: with the clear flag the counters of the pair that it read are 0 (R18). -/
def clearedBy (flag : Byte) (n : Nat) (p : PortId) (u : State) : State :=
  if flag.toNat = 0 then u else u.setPort p (clearPair n (u.port p))

theorem clearedBy_zero {n : Nat} {p : PortId} {u : State} : clearedBy 0 n p u = u := if_pos rfl

theorem clearedBy_clears {flag : Byte} {n : Nat} {first : Counter} {second : Option Counter} (h : IsPair n first second)
    (hf : flag ≠ 0) (u : State) (p : PortId) :
    OnlyPort p u (clearedBy flag n p u) ∧
    (clearedBy flag n p u).port p = { u.port p with counters := ((clearedBy flag n p u).port p).counters } ∧
    ∀ c : Counter, (clearedBy flag n p u).counter p c = if c = first ∨ second = some c then 0 else u.counter p c := by
  have hset : clearedBy flag n p u = u.setPort p (clearPair n (u.port p)) := if_neg fun hz => hf (BitVec.eq_of_toNat_eq hz)
  rw [hset]
  refine ⟨onlyPort_setPort p u _, ?_, fun c => ?_⟩
  · rw [port_setPort_self]
    exact clearPair_frame h _
  · rw [State.counter, port_setPort_self]
    exact portCounter_clearPair h _ c

theorem exec_readCounters {p : PortId} {b flag : Byte} {more : List Byte} {first : Counter} {second : Option Counter}
    (hl : (b :: flag :: more).length ≤ 6) (ha : a = byteOf p.val) (hb : b.toNat ≤ 5) (hpair : IsPair b.toNat first second)
    (hs : s = r.requestArrives (0x05 :: a :: b :: flag :: more)) :
    exec (.readCounters (a :: b :: flag :: more)) r = .next ((clearedBy flag b.toNat p (beginRequest s)).answered
      ([0x05, 0, a, b] ++ bytes16 ((beginRequest s).counter p first) ++
        bytes16 (second.elim 0 ((beginRequest s).counter p)))) := by
  have hval : a.toNat = p.val := by rw [ha, toNat_byteOf (by omega)]
  have hport : (Fin.ofNat 5 (argAt (a :: b :: flag :: more) 0) : PortId) = p := by
    rw [show argAt (a :: b :: flag :: more) 0 = p.val from hval]
    exact Fin.ofNat_val_eq_self p
  have hbyte : byteOf (argAt (a :: b :: flag :: more) 1) = b := byteOf_toNat b
  have hread : counterPair ((beginRequest s).port p) (argAt (a :: b :: flag :: more) 1) =
      ((beginRequest s).counter p first, second.elim 0 ((beginRequest s).counter p)) := (hpair _).1
  have hact : actReadCounters (a :: b :: flag :: more) (beginRequest s) = answerOk (clearedBy flag b.toNat p (beginRequest s))
      ([a, b] ++ bytes16 ((beginRequest s).counter p first) ++ bytes16 (second.elim 0 ((beginRequest s).counter p))) := by
    unfold actReadCounters
    dsimp only
    rw [hport, hread, hbyte, ha]
    rfl
  exact (serves_readCounters (a :: b :: flag :: more)).passes (Nat.succ_le_succ hl) hs (by simp) rfl
    (Bool.and_eq_true_iff.mpr ⟨decide_eq_true (by rw [show argAt (a :: b :: flag :: more) 0 = p.val from hval]; omega),
      decide_eq_true hb⟩) hact

end

/-- Two answers with the same bytes. -/
theorem answered_congr {u : State} {x y : List Byte} (h : x = y) :
    (Host.Outcome.next (u.answered x) : Host.Outcome State Fault Refusal) = .next (u.answered y) := by rw [h]

/-- Settles O56: each reading request by what its action reads, and absent values by the case of the field. -/
theorem readingRequestsReport : Obligations.ReadingRequestsReport := by
  intro r s u a rest hl
  refine ⟨fun hs hu => ⟨fun ha => ?_, fun ha => ?_⟩, fun hs hu => ⟨fun ha => ?_, fun ha => ?_, fun ha => ?_, fun ha => ?_, fun ha => ?_⟩,
    fun g ha hs hu => ?_, fun b more hr ha hb hs hu => ⟨fun w hw => ?_, fun hw => ?_⟩,
    fun p b flag more first second ha hr hpair hs hu => ?_, by decide⟩
  · subst hu ha
    cases hf : s.store.verifyFault with
    | none => exact exec_status hl (by decide) hs (congrArg (answerOk _) (statusPart0_passed (s := beginRequest s) hf))
    | some x => exact exec_status hl (by decide) hs (congrArg (answerOk _) (statusPart0_faulty (s := beginRequest s) hf))
  · subst ha
    cases hh : u.hold with
    | nil =>
      subst hu
      exact exec_status hl (by decide) hs (congrArg (answerOk _) (statusPart1_held (heldBytes_empty hh)))
    | cons e l =>
      subst hu
      obtain ⟨frame, dest, left, rule⟩ := e
      cases rule with
      | none => exact exec_status hl (by decide) hs (congrArg (answerOk _) (statusPart1_held (heldBytes_unruled hh rfl)))
      | some i => exact exec_status hl (by decide) hs (congrArg (answerOk _) (statusPart1_held (heldBytes_ruled hh rfl)))
  · subst hu ha
    exact exec_readBudget hl (by decide) hs rfl
  · subst hu ha
    exact exec_readBudget hl (by decide) hs rfl
  · subst hu ha
    exact exec_readBudget hl (by decide) hs rfl
  · subst hu ha
    exact exec_readBudget hl (by decide) hs rfl
  · subst hu ha
    exact exec_readBudget hl (by decide) hs rfl
  · subst hu
    refine (exec_readGroup hl ha hs).trans (answered_congr ?_)
    refine readGroup_bytes_congr ?_ ?_ ?_
    · cases (s.group g).lastFault <;> rfl
    · cases (s.group g).grantClass <;> rfl
    · unfold lingerValue lingerView
      cases (s.group g).timer with
      | stopped => cases (s.group g).state <;> rfl
      | _ => rfl
  · subst hu hr
    refine (exec_readHistory hl ha hb hs (actReadHistory_of_record (s := beginRequest s) hw)).trans (answered_congr ?_)
    obtain ⟨outcome, group, mode, cls, cause, source, rule, ident, fault, modeTime, bRem⟩ := w
    have hpart : b.toNat = 0 ∨ b.toNat = 1 ∨ b.toNat = 2 ∨ b.toNat = 3 := by omega
    rcases hpart with hpart | hpart | hpart | hpart <;> rw [hpart]
    · rcases source with _ | (p | k | _) <;> cases cls <;> rfl
    · rcases ident with _ | (i | i)
      · cases rule <;> cases fault <;> rfl
      · rw [recordPart_one_std _ rfl]
        cases rule <;> cases fault <;> rfl
      · cases rule <;> cases fault <;> rfl
    · rfl
    · rfl
  · subst hu hr
    exact exec_readHistory hl ha hb hs (actReadHistory_of_no_record (s := beginRequest s) hw)
  · subst hu hr
    obtain ⟨hb, hpair⟩ := isPair_of_byte hpair
    have hexec := exec_readCounters hl ha hb hpair hs
    have hclears : flag ≠ 0 → _ := fun hf => clearedBy_clears hpair hf (beginRequest s) p
    cases second <;> exact ⟨_, hexec, fun hf => hf ▸ clearedBy_zero, hclears⟩

end Sys2Proof.Machine
end

section
/-! A wake request, CLEAR-FAULT and RELEASE-QUARANTINE on the groups that they name (R60, R83, R84, R137, R163, R164; O59). -/

namespace Sys2Proof.Machine

/-! ### Steps over groups -/

section
variable {α : Type} {φ : State → GroupId → α} {f : State → GroupId → State}

/-- Steps over groups, each leaving an item of the other groups alone, leave that item of a group outside the list alone. -/
theorem item_foldl_of_notMem (hf : ∀ s g h, h ≠ g → φ (f s g) h = φ s h) (l : List GroupId) (s : State) (g : GroupId) (hg : g ∉ l) :
    φ (l.foldl f s) g = φ s g := by
  induction l generalizing s with
  | nil => rfl
  | cons a l ih =>
    obtain ⟨hne, hl⟩ := not_or.mp fun h => hg (List.mem_cons.mpr h)
    rw [List.foldl_cons, ih _ hl, hf s a g hne]

/-- What such steps leave of the item at a group in the list is what its own step leaves, taken in a state that has the item as it
was at the start. -/
theorem item_foldl (hf : ∀ s g h, h ≠ g → φ (f s g) h = φ s h) (l : List GroupId) (hl : l.Nodup) (s : State) (g : GroupId)
    (hg : g ∈ l) : ∃ u : State, φ u g = φ s g ∧ φ (l.foldl f s) g = φ (f u g) g := by
  induction l generalizing s with
  | nil => cases hg
  | cons a l ih =>
    obtain ⟨ha, hl⟩ := List.nodup_cons.mp hl
    rw [List.foldl_cons]
    by_cases e : g = a
    · subst e
      exact ⟨s, rfl, item_foldl_of_notMem hf l _ g ha⟩
    · obtain ⟨u, hu, hstep⟩ := ih hl (f s a) ((List.mem_cons.mp hg).resolve_left e)
      exact ⟨u, hu.trans (hf s a g e), hstep⟩

end

/-! ### A wake request -/

theorem GroupFrame.stormOf {s t : State} (h : GroupFrame s t) (g : GroupId) : t.stormOf g = s.stormOf g := by
  rw [State.stormOf, h.storm]
  rfl

theorem stormOf_grantFromOff_ne {g h : GroupId} (r : WakeRequest) (s : State) (hne : h ≠ g) :
    (grantFromOff r g s).stormOf h = s.stormOf h := by
  have hpowering := (groupFrame_enterPowering g r.cls s).stormOf h
  by_cases hm : s.mode.mode = .parked
  · rw [grantFromOff_parked hm rfl]
    exact (stormOf_setStorm_ne _ _ hne).trans hpowering
  · rw [grantFromOff_elsewhere hm rfl]
    exact hpowering

/-- A wake request taken for one group leaves the storm records of the others alone. -/
theorem stormOf_takeWakeGroup_ne {g h : GroupId} (r : WakeRequest) (s : State) (hne : h ≠ g) :
    (takeWakeGroup r g s).1.stormOf h = s.stormOf h := by
  unfold takeWakeGroup
  dsimp only
  split
  · rfl
  · split
    · rfl
    · rfl
    · split
      · simp [quarantineGroup, hne]
      · split
        · exact stormOf_grantFromOff_ne r s hne
        · rfl
    · rfl
    · rfl
    · split <;> rfl
    · split
      · exact (groupFrame_enterReleasing g _).stormOf h
      · rfl

theorem stormOf_takeWake_of_notNamed (r : WakeRequest) (s : State) {g : GroupId} (h : r.set.getLsbD g.val = false) :
    (takeWake r s).1.stormOf g = s.stormOf g := by
  rw [takeWake_state]
  exact item_foldl_of_notMem (φ := fun s g => s.stormOf g) (fun t k _ hne => stormOf_takeWakeGroup_ne r t hne) _ s g
    fun hm => by rw [(List.mem_filter.mp hm).2] at h; cases h

/-- The state in which a wake request reaches a group: the named groups of the list that stand before it have been taken. -/
def wakenBelow (q : WakeRequest) (l : List GroupId) (g : GroupId) (s : State) : State :=
  (l.filter (fun h : GroupId => q.set.getLsbD h && decide (h < g))).foldl (fun t h => (takeWakeGroup q h t).1) s

theorem wakenBelow_cons {q : WakeRequest} {l : List GroupId} {a g : GroupId} (h : a < g) (s : State) (x : GroupSet) :
    wakenBelow q (a :: l) g s = wakenBelow q l g (takeWakeFrom q (s, x) a).1 := by
  cases hq : q.set.getLsbD a.val with
  | false => simp only [wakenBelow, takeWakeFrom, List.filter_cons, hq, Bool.false_and, Bool.false_eq_true, if_false]
  | true =>
    simp only [wakenBelow, takeWakeFrom, List.filter_cons, hq, h, decide_true, Bool.and_true, if_true, List.foldl_cons]

theorem wakenBelow_least {q : WakeRequest} {l : List GroupId} {g : GroupId} (h : ∀ a ∈ l, g < a) (s : State) :
    wakenBelow q (g :: l) g s = s := by
  have hnone : (g :: l).filter (fun h : GroupId => q.set.getLsbD h && decide (h < g)) = [] :=
    List.filter_eq_nil_iff.mpr fun a ha => by
      have hle : g ≤ a := (List.mem_cons.mp ha).elim (fun e => le_of_eq e.symm) fun hm => le_of_lt (h a hm)
      simp [not_lt.mpr hle]
  rw [wakenBelow, hnone]
  rfl

/-- One group's step of a wake request adds the group to the refused set when it is named and refused. -/
theorem takeWakeFrom_refused (q : WakeRequest) (acc : State × GroupSet) (a g : GroupId) :
    (takeWakeFrom q acc a).2.getLsbD g = true ↔
      acc.2.getLsbD g = true ∨ (g = a ∧ q.set.getLsbD a = true ∧ (takeWakeGroup q a acc.1).2 = true) := by
  unfold takeWakeFrom
  cases hq : q.set.getLsbD a.val with
  | false => simp
  | true =>
    cases hr : (takeWakeGroup q a acc.1).2 with
    | false => simp [hr]
    | true => simp only [hr, if_true, BitVec.getLsbD_or, Bool.or_eq_true, getLsbD_single, decide_eq_true_eq, and_true]

/-- Over an ascending list the refused groups are the named ones that are refused where the request reaches them. -/
theorem foldl_takeWakeFrom_refused (q : WakeRequest) (g : GroupId) (l : List GroupId) : ∀ acc : State × GroupSet,
    l.Pairwise (· < ·) → ((l.foldl (takeWakeFrom q) acc).2.getLsbD g = true ↔
      acc.2.getLsbD g = true ∨
        (g ∈ l ∧ q.set.getLsbD g = true ∧ (takeWakeGroup q g (wakenBelow q l g acc.1)).2 = true)) := by
  induction l with
  | nil => simp
  | cons a l ih =>
    intro acc hl
    obtain ⟨ha, hl⟩ := List.pairwise_cons.mp hl
    rw [List.foldl_cons, ih _ hl, takeWakeFrom_refused]
    by_cases e : g = a
    · subst e
      have hnot : g ∉ l := fun hm => lt_irrefl g (ha g hm)
      rw [wakenBelow_least ha]
      simp [hnot]
    · by_cases hm : g ∈ l
      · rw [wakenBelow_cons (ha g hm) acc.1 acc.2]
        simp [e]
      · simp [e, hm]

theorem allGroups_ascending : allGroups.Pairwise (· < ·) := by decide

theorem takeWake_refused (q : WakeRequest) (s : State) (g : GroupId) :
    (takeWake q s).2.getLsbD g = true ↔
      q.set.getLsbD g = true ∧ (takeWakeGroup q g (wakenBelow q allGroups g s)).2 = true := by
  have h := foldl_takeWakeFrom_refused q g allGroups (s, 0) allGroups_ascending
  exact h.trans ((or_iff_right (by simp)).trans (and_iff_right (mem_allGroups g)))

/-! ### WAKE -/

theorem groupSetWhere_eq {f : GroupId → Bool} {x : GroupSet} (h : ∀ g : GroupId, x.getLsbD g = f g) : groupSetWhere f = x :=
  BitVec.eq_of_getLsbD_eq fun i hi => (getLsbD_foldl_groups f ⟨i, hi⟩).trans (h ⟨i, hi⟩).symm

theorem mgmtRequest_eq (set : Byte) (cls : WakeClass) (rest : List Byte) :
    mgmtRequest (set :: byteOf cls.val :: rest) =
      { set := set, cls := cls, cause := .mgmt, source := some (.port 0), rule := none, ident := none } := by
  have hcls : classOf (byteOf cls.val).toNat = cls := by
    rw [toNat_byteOf (by omega), classOf, dif_pos cls.isLt]
  exact congrArg (fun c : WakeClass => ({ set := set, cls := c, cause := .mgmt, source := some (.port 0), rule := none, ident := none } : WakeRequest)) hcls

theorem exec_wake {set : Byte} {cls : WakeClass} {rest : List Byte} {r s t : State} {refused on : GroupSet} (hl : rest.length ≤ 5)
    (ho : s.extendedOpen) (hs : s = r.requestArrives (0x14 :: set :: byteOf cls.val :: rest))
    (ht : (t, refused) =
      takeWake { set := set, cls := cls, cause := .mgmt, source := some (.port 0), rule := none, ident := none } (beginRequest s))
    (hon : ∀ g : GroupId, on.getLsbD g = (set.getLsbD g && (t.group g).state.supplyOn)) :
    exec (.wake (set :: byteOf cls.val :: rest)) r = .next (t.answered [0x14, 0, on, refused, 0, 0, 0, 0]) := by
  have hact : actWake (set :: byteOf cls.val :: rest) (beginRequest s) = answerOk t [on, refused] := by
    unfold actWake
    rw [mgmtRequest_eq]
    dsimp only
    rw [← ht]
    exact congrArg (fun x => answerOk t [x, refused]) (groupSetWhere_eq hon)
  have hrange : decide ((byteOf cls.val).toNat ≤ 3) = true := by
    rw [toNat_byteOf (by omega), decide_eq_true_eq]
    omega
  exact (serves_wake (set :: byteOf cls.val :: rest)).passes (Nat.add_le_add_right hl 2) hs (by simp)
    ((gateOpen_extended s).mpr ho) hrange hact

/-! ### CLEAR-FAULT -/

/-- CLEAR-FAULT changes channels, and through them ports and hold queue, and nothing else (R164). -/
def ChannelFrame (s t : State) : Prop := t = { s with groups := t.groups, ports := t.ports, hold := t.hold }

theorem ChannelFrame.refl (s : State) : ChannelFrame s s := rfl

theorem ChannelFrame.trans {s t u : State} (h : ChannelFrame s t) (k : ChannelFrame t u) : ChannelFrame s u := by
  unfold ChannelFrame at *
  rw [k]
  rw [h]

theorem channelFrame_clearFaultGroup (set : GroupSet) (s : State) (g : GroupId) : ChannelFrame s (clearFaultGroup set s g) := by
  unfold clearFaultGroup
  split <;> rfl

theorem portsFollow_clearFaultGroup (set : GroupSet) (s : State) (g : GroupId) : PortsFollow s (clearFaultGroup set s g) := by
  unfold clearFaultGroup
  split
  · exact portsFollow_enterOff g s
  · exact PortsFollow.refl s

theorem group_clearFaultGroup_self (set : GroupSet) (s : State) (g : GroupId) :
    (clearFaultGroup set s g).group g =
      if (set.getLsbD g && (s.group g).state == .fault) = true then groupOff (s.group g) else s.group g := by
  unfold clearFaultGroup
  split
  · exact group_enterOff_self g s
  · rfl

theorem group_clearFaultGroup_ne (set : GroupSet) (s : State) (g h : GroupId) (hne : h ≠ g) :
    (clearFaultGroup set s g).group h = s.group h := by
  unfold clearFaultGroup
  split
  · exact group_enterOff_ne s hne
  · rfl

theorem group_clearFault (set : GroupSet) (s : State) (g : GroupId) :
    (allGroups.foldl (clearFaultGroup set) s).group g =
      if (set.getLsbD g && (s.group g).state == .fault) = true then groupOff (s.group g) else s.group g := by
  obtain ⟨u, hu, hstep⟩ := item_foldl (φ := fun s g => s.group g) (group_clearFaultGroup_ne set) allGroups allGroups_nodup s g
    (mem_allGroups g)
  rw [hstep, group_clearFaultGroup_self, hu]

/-! ### RELEASE-QUARANTINE -/

/-- RELEASE-QUARANTINE changes channels, storm records and the history, and through the channels ports and hold queue (R137). -/
def ReleaseFrame (s t : State) : Prop :=
  t = { s with groups := t.groups, ports := t.ports, hold := t.hold, storm := t.storm, history := t.history }

theorem ReleaseFrame.refl (s : State) : ReleaseFrame s s := rfl

theorem ReleaseFrame.trans {s t u : State} (h : ReleaseFrame s t) (k : ReleaseFrame t u) : ReleaseFrame s u := by
  unfold ReleaseFrame at *
  rw [k]
  rw [h]

theorem releaseFrame_releaseGroup (set : GroupSet) (s : State) (g : GroupId) : ReleaseFrame s (releaseGroup set s g) := by
  unfold releaseGroup
  split <;> rfl

theorem portsFollow_releaseGroup (set : GroupSet) (s : State) (g : GroupId) : PortsFollow s (releaseGroup set s g) := by
  unfold releaseGroup
  split
  · exact portsFollow_endQuarantine _ _ g s
  · exact PortsFollow.refl s

/-- The channel and the storm record of a group. -/
def channelAndStorm (s : State) (g : GroupId) : Group × StormRecord := (s.group g, s.stormOf g)

theorem releaseGroup_self (set : GroupSet) (s : State) (g : GroupId) :
    channelAndStorm (releaseGroup set s g) g =
      if (set.getLsbD g && (s.group g).state == .quarantined) = true then (groupOff (s.group g), StormRecord.atPowerOn)
      else channelAndStorm s g := by
  unfold releaseGroup
  split
  · simp [channelAndStorm, endQuarantine, enterOff]
  · rfl

theorem releaseGroup_ne (set : GroupSet) (s : State) (g h : GroupId) (hne : h ≠ g) :
    channelAndStorm (releaseGroup set s g) h = channelAndStorm s h := by
  unfold releaseGroup
  split
  · simp [channelAndStorm, endQuarantine, enterOff, hne]
  · rfl

theorem release_channelAndStorm (set : GroupSet) (s : State) (g : GroupId) :
    channelAndStorm (allGroups.foldl (releaseGroup set) s) g =
      if (set.getLsbD g && (s.group g).state == .quarantined) = true then (groupOff (s.group g), StormRecord.atPowerOn)
      else channelAndStorm s g := by
  obtain ⟨u, hu, hstep⟩ := item_foldl (releaseGroup_ne set) allGroups allGroups_nodup s g (mem_allGroups g)
  have hgroup : u.group g = s.group g := congrArg Prod.fst hu
  rw [hstep, releaseGroup_self, hu, hgroup]

/-- The record that a RELEASE-QUARANTINE writes for a group that it releases. -/
def releaseRecord (set : GroupSet) (s : State) (g : GroupId) : Option WakeRecord :=
  if (set.getLsbD g && (s.group g).state == .quarantined) = true then
    some (PlainRecord .quarantineEnd g .mgmt (some (.port 0)) none s) else none

theorem history_releaseGroup (set : GroupSet) (s : State) (g : GroupId) :
    (releaseGroup set s g).history = s.history.pushAll (releaseRecord set s g).toList := by
  unfold releaseGroup releaseRecord
  split <;> rfl

theorem releaseRecord_releaseGroup (set : GroupSet) (s : State) (g h : GroupId) (hne : h ≠ g) :
    releaseRecord set (releaseGroup set s g) h = releaseRecord set s h := by
  have hframe := releaseFrame_releaseGroup set s g
  unfold ReleaseFrame at hframe
  have hmode : (releaseGroup set s g).mode = s.mode := by rw [hframe]
  have hcharge : (releaseGroup set s g).charge.bRem = s.charge.bRem := by rw [hframe]
  have hgroup : (releaseGroup set s g).group h = s.group h := congrArg Prod.fst (releaseGroup_ne set s g h hne)
  rw [releaseRecord, releaseRecord, hgroup, PlainRecord_congr hmode hcharge]

theorem history_release (set : GroupSet) (s : State) :
    (allGroups.foldl (releaseGroup set) s).history =
      (allGroups.filter (fun g : GroupId => set.getLsbD g && (s.group g).state == .quarantined)).foldl
        (fun h g => h.push (PlainRecord .quarantineEnd g .mgmt (some (.port 0)) none s)) s.history := by
  rw [history_foldl (K := fun _ => True) (wr := releaseRecord set) (fun _ _ _ => trivial) (fun t g _ => history_releaseGroup set t g)
    (fun t g h _ hne => releaseRecord_releaseGroup set t g h hne) allGroups allGroups_nodup s trivial]
  unfold releaseRecord
  rw [filterMap_if, WakeHistory.pushAll, List.foldl_map]

/-- Settles O59: each request goes over the groups in ascending order, and a group's step looks at that group alone. -/
theorem groupRequestsActOnNamedGroups : Obligations.GroupRequestsActOnNamedGroups := by
  refine ⟨fun q s => ⟨takeWake_state q s, takeWake_refused q s,
      fun g h => ⟨group_takeWake_of_notNamed q s h, stormOf_takeWake_of_notNamed q s h⟩⟩,
    fun set c rest r s u t refused on hl ho hs hu cls hc ht hon => ?_,
    fun set rest r s u cleared hl ho => ⟨fun hs hu hcleared => ?_, fun hs hu hcleared => ?_⟩⟩ <;> subst hu
  · subst hc
    exact exec_wake hl ho hs ht hon
  · have hact : actClearFault (set :: rest) (beginRequest s) =
        answerOk (allGroups.foldl (clearFaultGroup set) (beginRequest s)) [cleared] :=
      congrArg (fun x => answerOk _ [x]) (groupSetWhere_eq hcleared)
    refine ⟨_, (serves_clearFault (set :: rest)).passes (Nat.succ_le_succ hl) hs (by simp) ((gateOpen_extended s).mpr ho) rfl hact,
      foldl_frame ChannelFrame.refl ChannelFrame.trans (channelFrame_clearFaultGroup set) allGroups _,
      foldl_frame PortsFollow.refl PortsFollow.trans (portsFollow_clearFaultGroup set) allGroups _, fun g => ?_⟩
    rw [hcleared g]
    exact group_clearFault set (beginRequest s) g
  · have hact : actReleaseQuarantine (set :: rest) (beginRequest s) =
        answerOk (allGroups.foldl (releaseGroup set) (beginRequest s)) [cleared] :=
      congrArg (fun x => answerOk _ [x]) (groupSetWhere_eq hcleared)
    refine ⟨_, (serves_releaseQuarantine (set :: rest)).passes (Nat.succ_le_succ hl) hs (by simp) ((gateOpen_extended s).mpr ho) rfl
        hact, foldl_frame ReleaseFrame.refl ReleaseFrame.trans (releaseFrame_releaseGroup set) allGroups _,
      foldl_frame PortsFollow.refl PortsFollow.trans (portsFollow_releaseGroup set) allGroups _, ?_, fun g => ?_⟩
    · simp only [hcleared]
      exact history_release set (beginRequest s)
    · have hboth : channelAndStorm (allGroups.foldl (releaseGroup set) (beginRequest s)) g =
          if (set.getLsbD g && (s.group g).state == .quarantined) = true then (groupOff (s.group g), StormRecord.atPowerOn)
          else channelAndStorm s g := release_channelAndStorm set (beginRequest s) g
      rw [hcleared g]
      split at hboth
      next h =>
        rw [if_pos h, if_pos h]
        exact Prod.mk.inj hboth
      next h =>
        rw [if_neg h, if_neg h]
        exact Prod.mk.inj hboth

end Sys2Proof.Machine
end
